-- ==== Sys2Proof/Word.lean ====
section
/-! DEFINITION. The plain types the rest of the model is written in: bytes, 16-bit samples, the setup packet seen through
its five fields (30_encoding.md R111), the fields of a receive-status word (30_encoding.md R119) and the three input formats
(30_encoding.md R110). -/

namespace Sys2Proof

/-- A byte is 8 bits (00_scope.md R8). -/
abbrev Byte := BitVec 8

/-- One 16-bit audio sample, a raw bit pattern (45_iso_receive.md R303). -/
abbrev Sample := BitVec 16

/-- The setup packet, an "8-byte value type", through its five fields (10_state.md R32, 30_encoding.md R111). -/
structure SetupPacket where
  bmRequestType : BitVec 8
  bRequest : BitVec 8
  wValue : BitVec 16
  wIndex : BitVec 16
  wLength : BitVec 16
deriving DecidableEq, Repr, Inhabited

/-- The fields of a receive-status word other than its packet status (30_encoding.md R119). -/
structure RxStatus where
  epnum : BitVec 4
  bcnt : BitVec 11
  dpid : BitVec 2
  frmnum : BitVec 4
deriving DecidableEq, Repr, Inhabited

/-- The three input formats of the block (30_encoding.md R110). -/
inductive Format where
  /-- an 8-byte setup packet -/
  | setup
  /-- a 32-bit receive-status word -/
  | rxsts
  /-- an 8-bit event word -/
  | event
deriving DecidableEq, Repr

/-- The three string tables of the descriptor repository, indexes 0, 1, 2 (43_descriptor_server.md R230). -/
structure Strings where
  language : List Byte
  manufacturer : List Byte
  product : List Byte
deriving DecidableEq, Repr, Inhabited

end Sys2Proof
end

