-- ==== Sys2Proof/Machine/Operands.lean ====
section
/-! DEFINITION. Every operand form of the block (30_encoding.md R111, R112, R114, R115, R123): byte order, the fields of a
setup packet, the packet's bytes and its 64-bit word, the receive-status word, and slices of byte lists. -/

namespace Sys2Proof

/-- `le16(b0, b1)`: two wire bytes, least significant first (00_scope.md R8, 20_memory.md R83). -/
def le16 (b0 b1 : Byte) : BitVec 16 := b1 ++ b0

/-- `le_bytes_N(v)`: the `n` little-endian bytes of the number `v` (00_scope.md R8). -/
def leBytes : Nat → Nat → List Byte
  | 0, _ => []
  | n + 1, v => BitVec.ofNat 8 v :: leBytes n (v / 256)

/-- Byte `i` of a byte list. R8 defines it for `i < len(d)`; past the end the model reads 0 (log entry 5). -/
def byteAt (d : List Byte) (i : Nat) : Byte := d.getD i 0

/-- `d[i .. i+k-1]`, the sub-list of `k` bytes from `i` (00_scope.md R8). -/
def slice (d : List Byte) (i k : Nat) : List Byte := (d.drop i).take k

namespace SetupPacket

/-- `dir = bmRequestType[7]`, true for device-to-host (30_encoding.md R112). -/
def dir (p : SetupPacket) : Bool := p.bmRequestType.getLsbD 7

/-- `type = bmRequestType[6:5]` (30_encoding.md R112). -/
def type (p : SetupPacket) : BitVec 2 := p.bmRequestType.extractLsb' 5 2

/-- `recipient = bmRequestType[4:0]` (30_encoding.md R112). -/
def recipient (p : SetupPacket) : BitVec 5 := p.bmRequestType.extractLsb' 0 5

/-- `dtype = wValue[15:8]`, the descriptor type of GET_DESCRIPTOR (30_encoding.md R114). -/
def dtype (p : SetupPacket) : Byte := p.wValue.extractLsb' 8 8

/-- `dindex = wValue[7:0]`, the descriptor index of GET_DESCRIPTOR (30_encoding.md R114). -/
def dindex (p : SetupPacket) : Byte := p.wValue.extractLsb' 0 8

/-- `cs = wValue[15:8]`, the UAC2 control selector (30_encoding.md R115). -/
def cs (p : SetupPacket) : Byte := p.wValue.extractLsb' 8 8

/-- `cn = wValue[7:0]`, the UAC2 channel number, which no rule reads (30_encoding.md R115). -/
def cn (p : SetupPacket) : Byte := p.wValue.extractLsb' 0 8

/-- `ifn = wIndex[7:0]`, the UAC2 interface (30_encoding.md R115). -/
def ifn (p : SetupPacket) : Byte := p.wIndex.extractLsb' 0 8

/-- `ent = wIndex[15:8]`, the UAC2 entity (30_encoding.md R115). -/
def ent (p : SetupPacket) : Byte := p.wIndex.extractLsb' 8 8

/-- The 64-bit view `W` of the packet: byte 0 of the wire lowest (30_encoding.md R111). -/
def word (p : SetupPacket) : BitVec 64 := p.wLength ++ p.wIndex ++ p.wValue ++ p.bRequest ++ p.bmRequestType

/-- The 8 wire bytes of the packet (30_encoding.md R111). -/
def bytes (p : SetupPacket) : List Byte :=
  [p.bmRequestType, p.bRequest,
   p.wValue.extractLsb' 0 8, p.wValue.extractLsb' 8 8,
   p.wIndex.extractLsb' 0 8, p.wIndex.extractLsb' 8 8,
   p.wLength.extractLsb' 0 8, p.wLength.extractLsb' 8 8]

end SetupPacket

/-- The setup packet of 8 wire bytes `b[0..7]` (30_encoding.md R111). -/
def parsePacket (b : List Byte) : SetupPacket :=
  { bmRequestType := byteAt b 0
    bRequest := byteAt b 1
    wValue := le16 (byteAt b 2) (byteAt b 3)
    wIndex := le16 (byteAt b 4) (byteAt b 5)
    wLength := le16 (byteAt b 6) (byteAt b 7) }

/-- The receive-status word with packet status `pktsts` and the other fields `st`:
`EPNUM = w[3:0]`, `BCNT = w[14:4]`, `DPID = w[16:15]`, `PKTSTS = w[20:17]`, `FRMNUM = w[24:21]`; the layout leaves
`w[31:25]` without a field and the encoder writes 0 there (30_encoding.md R119). -/
def rxWord (pktsts : BitVec 4) (st : RxStatus) : BitVec 32 :=
  (0#7) ++ st.frmnum ++ pktsts ++ st.dpid ++ st.bcnt ++ st.epnum

/-- `PKTSTS = w[20:17]` (30_encoding.md R119). -/
def rxPktsts (w : BitVec 32) : BitVec 4 := w.extractLsb' 17 4

/-- The fields of a receive-status word other than `PKTSTS` (30_encoding.md R119). -/
def rxFields (w : BitVec 32) : RxStatus :=
  { epnum := w.extractLsb' 0 4
    bcnt := w.extractLsb' 4 11
    dpid := w.extractLsb' 15 2
    frmnum := w.extractLsb' 21 4 }

/-- `kind = e[7:4]` of an event word (30_encoding.md R120). -/
def eventKind (e : BitVec 8) : BitVec 4 := e.extractLsb' 4 4

/-- `ep = e[3:0]` of an event word (30_encoding.md R120). -/
def eventEp (e : BitVec 8) : BitVec 4 := e.extractLsb' 0 4

/-- The event word of kind `k` and endpoint `ep` (30_encoding.md R120). -/
def eventWord (k ep : BitVec 4) : BitVec 8 := k ++ ep

end Sys2Proof
end

