-- ==== Sys2Proof/Machine/DescriptorShape.lean ====
section
/-! DEFINITION. The shape of the configuration descriptor `CFG_DESC` (43_descriptor_server.md R232), which 00_scope.md R6
makes the constraint of that parameter. R232 fixes which descriptors follow the header, their order and their contents; the
places of the fields are those of USB 2.0 and UAC2, which the spec does not give (log entry 10, PRESUMED). No rule of the
block reads any of this: it only decides which parameter sets have a model. -/

namespace Sys2Proof

/-- A configuration descriptor cut at the declared lengths of its parts; nothing if a declared length is no size of a part
(43_descriptor_server.md R233 (a)). `fuel` bounds the number of parts. -/
def splitDescriptors : Nat → List Byte → Option (List (List Byte))
  | _, [] => some []
  | 0, _ :: _ => none
  | fuel + 1, b :: rest =>
    if 2 ≤ b.toNat ∧ b.toNat ≤ rest.length + 1 then
      (splitDescriptors fuel (rest.drop (b.toNat - 1))).map fun parts => (b :: rest.take (b.toNat - 1)) :: parts
    else none

/-- A part of descriptor type `t`. -/
def isPart (t : Byte) (d : List Byte) : Bool := byteAt d 1 == t

/-- A class-specific part of descriptor type `t` and subtype `u`. -/
def isClassPart (t u : Byte) (d : List Byte) : Bool := byteAt d 1 == t && byteAt d 2 == u

/-- The configuration header of a "2-interface audio function". -/
def isConfigurationHeader (d : List Byte) : Bool := byteAt d 0 == 9 && isPart 0x02 d && byteAt d 4 == 2

/-- The interface association of the two interfaces from `first` on. -/
def isAssociation (first : Nat) (d : List Byte) : Bool :=
  isPart 0x0B d && (byteAt d 2).toNat == first && byteAt d 3 == 2 && byteAt d 4 == 0x01

/-- Interface `n`, alternate `alt`, with `endpoints` endpoints, of the audio class and the subclass `sub` (1 control,
2 streaming). -/
def isInterface (n alt endpoints : Nat) (sub : Byte) (d : List Byte) : Bool :=
  isPart 0x04 d && (byteAt d 2).toNat == n && (byteAt d 3).toNat == alt && (byteAt d 4).toNat == endpoints &&
    byteAt d 5 == 0x01 && byteAt d 6 == sub

/-- An input terminal of 2 channels. -/
def isInputTerminal (d : List Byte) : Bool := isClassPart 0x24 0x02 d && byteAt d 8 == 2

/-- The class-specific descriptor of the streaming interface, where there is one: format type 1, PCM the one format of its
format bits, 2 channels. That "format Type I PCM" stands in these two fields is the model's reading (log entry 10,
PRESUMED). -/
def isStreamingGeneral (d : List Byte) : Bool :=
  isClassPart 0x24 0x01 d && byteAt d 5 == 1 &&
    (byteAt d 6 == 1 && byteAt d 7 == 0 && byteAt d 8 == 0 && byteAt d 9 == 0) && byteAt d 10 == 2

/-- A format-type descriptor "Type I PCM, 16-bit": format type 1, 2 bytes a sample, 16 bits of them used. It has no field
for PCM, which stands only in the class-specific descriptor of the streaming interface (log entry 10, PRESUMED). -/
def isFormatType (d : List Byte) : Bool :=
  isClassPart 0x24 0x02 d && byteAt d 3 == 1 && byteAt d 4 == 2 && byteAt d 5 == 16

/-- The isochronous OUT endpoint `ep` with max packet `mps` and "interval 1". -/
def isIsoEndpoint (ep mps : Nat) (d : List Byte) : Bool :=
  isPart 0x05 d && (byteAt d 2).toNat == ep && (byteAt d 3).extractLsb' 0 2 == 1#2 &&
    (le16 (byteAt d 4) (byteAt d 5)).toNat == mps && byteAt d 6 == 1

/-- Every part meets its test, and there are as many parts as tests. -/
def meetsInOrder : List (List Byte → Bool) → List (List Byte) → Bool
  | [], [] => true
  | t :: ts, d :: ds => t d && meetsInOrder ts ds
  | [], _ :: _ => false
  | _ :: _, [] => false

/-- The parts up to the second alternate of the streaming interface, in the order of R232. -/
def leadingParts (acIf asIf : Nat) : List (List Byte → Bool) :=
  [isConfigurationHeader, isAssociation acIf, isInterface acIf 0 0 0x01,
    isClassPart 0x24 0x01, isClassPart 0x24 0x0A, isInputTerminal, isClassPart 0x24 0x03,
    isInterface asIf 0 0 0x02, isInterface asIf 1 1 0x02]

/-- The format type and the endpoint pair, which end the descriptor (R232). -/
def closingParts (isoEp isoMps : Nat) : List (List Byte → Bool) :=
  [isFormatType, isIsoEndpoint isoEp isoMps, isClassPart 0x25 0x01]

/-- `CFG_DESC` has the shape of R232. Whether the operational alternate carries a class-specific descriptor of its
interface is not in the source, so both are taken. Neither a sample rate nor the clock source's attribute of a fixed clock
is tested (log entry 10, PRESUMED). -/
def configurationShape (acIf asIf isoEp isoMps : Nat) (d : List Byte) : Bool :=
  match splitDescriptors d.length d with
  | none => false
  | some parts =>
    meetsInOrder (leadingParts acIf asIf ++ closingParts isoEp isoMps) parts ||
      meetsInOrder (leadingParts acIf asIf ++ isStreamingGeneral :: closingParts isoEp isoMps) parts

end Sys2Proof
end

