-- ==== Sys2Proof/Config.lean ====
section
/-! DEFINITION. What an implementation fixes (00_scope.md R6): the constants with a value in the source, the OPEN parameters
as an opaque constant that meets the stated constraints and has no other known value, and the free choice of the schedule
(60_exceptions.md R364, R369) as an opaque constant. -/

namespace Sys2Proof

/-- `EP0_MPS` (00_scope.md R6). -/
@[simp] def Config.ep0Mps : Nat := 64

/-- `ISO_EP`, an OUT endpoint number (00_scope.md R6, 90_conflicts.md C1). -/
@[simp] def Config.isoEp : Nat := 1

/-- `ISO_MPS` (00_scope.md R6). -/
@[simp] def Config.isoMps : Nat := 196

/-- `ADDR_MAX` (00_scope.md R6). -/
@[simp] def Config.addrMax : BitVec 16 := 0x7F#16

/-- `RATE_INIT`, 48000 Hz (00_scope.md R6). -/
@[simp] def Config.rateInit : BitVec 32 := 48000#32

/-- `RANGE_MIN` (00_scope.md R6). -/
@[simp] def Config.rangeMin : Nat := 48000

/-- `RANGE_MAX` (00_scope.md R6). -/
@[simp] def Config.rangeMax : Nat := 48000

/-- `RANGE_RES` (00_scope.md R6). -/
@[simp] def Config.rangeRes : Nat := 1

/-- `DEV_DESC_LEN` (00_scope.md R6). -/
@[simp] def Config.devDescLen : Nat := 18

/-- `AC_IF`, the audio-control interface number (00_scope.md R6). -/
@[simp] def Config.acIf : Nat := 0

/-- `AS_IF`, the audio-streaming interface number (00_scope.md R6). -/
@[simp] def Config.asIf : Nat := 1

/-- The parameters whose value the source leaves OPEN, with the two decided ones, `REPLY_CLAMP` and `TOGGLE_A_ACTIVE`
(00_scope.md R6). -/
structure Params where
  /-- `CFG_DESC`; its length is `CFG_DESC_LEN` -/
  cfgDesc : List Byte
  /-- `DEV_DESC` -/
  devDesc : List Byte
  /-- `QUAL_DESC`; its length is `QUAL_DESC_LEN` -/
  qualDesc : List Byte
  /-- `STR_DESC[0..2]` -/
  strDesc : Strings
  /-- `CLOCK_SOURCE_ID` -/
  clockSourceId : Byte
  /-- `CLOCK_SELECTOR_ID` -/
  clockSelectorId : Byte
  /-- `KEEPALIVE_TOKEN` -/
  keepaliveToken : List Byte
  /-- `BUF_SAMPLES` -/
  bufSamples : Nat
  /-- `RING_CAP` -/
  ringCap : Nat
  /-- `TS_BITS` -/
  tsBits : Nat
  /-- `NUM_EP` -/
  numEp : Nat
  /-- `REPLY_CLAMP`, decided false (92_eei_decisions.md D15) -/
  replyClamp : Bool := false
  /-- `TOGGLE_A_ACTIVE`, decided 0 (92_eei_decisions.md D22) -/
  toggleAActive : BitVec 1 := 0
deriving DecidableEq, Repr

/-- A string table holds its own first byte, and that self-declared length is at most its size
(00_scope.md R6, 43_descriptor_server.md R233 (a)). -/
abbrev Params.StringOk (d : List Byte) : Prop := 1 ≤ d.length ∧ (byteAt d 0).toNat ≤ d.length

/-- The parameter sets the model has a meaning for. A set that fails one of these is refused: 00_scope.md R6,
43_descriptor_server.md R231, R232 and R233 (a), (c), 70_reset_and_hazards.md R412 (a power of two) and R413 (even). The
places of descriptor fields are USB 2.0's and UAC2's (log entry 10, PRESUMED). An entity ID that is 0, or
that `CFG_DESC` gives a terminal, is accepted (log entry 21, DESIGN CHOICE). -/
abbrev Params.Wf (P : Params) : Prop :=
  (P.devDesc.length = Config.devDescLen ∧ byteAt P.devDesc 0 = 18 ∧ byteAt P.devDesc 1 = 1 ∧
    byteAt P.devDesc 4 = 0xEF ∧ byteAt P.devDesc 5 = 0x02 ∧ byteAt P.devDesc 6 = 0x01 ∧ byteAt P.devDesc 7 = 64) ∧
  (9 ≤ P.cfgDesc.length ∧ P.cfgDesc.length ≤ 65535 ∧
    (le16 (byteAt P.cfgDesc 2) (byteAt P.cfgDesc 3)).toNat = P.cfgDesc.length ∧
    configurationShape Config.acIf Config.asIf Config.isoEp Config.isoMps P.cfgDesc = true) ∧
  1 ≤ P.qualDesc.length ∧
  (Params.StringOk P.strDesc.language ∧ Params.StringOk P.strDesc.manufacturer ∧ Params.StringOk P.strDesc.product) ∧
  P.clockSourceId ≠ P.clockSelectorId ∧
  P.keepaliveToken.length = 4 ∧
  (P.bufSamples % 2 = 0 ∧ 2 ≤ P.bufSamples) ∧
  2 ^ Nat.log2 P.ringCap = P.ringCap ∧
  1 ≤ P.tsBits ∧
  2 ≤ P.numEp

/-- A shortest configuration descriptor of the shape of 43_descriptor_server.md R232. It only shows that one exists and is
not the model's `CFG_DESC`. -/
def Config.someConfiguration : List Byte :=
  [9, 0x02, 111, 0, 2, 1, 0, 0x80, 50] ++ [8, 0x0B, 0, 2, 1, 0, 0x20, 0] ++ [9, 0x04, 0, 0, 0, 1, 1, 0x20, 0] ++
  [9, 0x24, 0x01, 0, 2, 1, 46, 0, 0] ++ [8, 0x24, 0x0A, 1, 1, 0, 0, 0] ++
  [17, 0x24, 0x02, 2, 1, 1, 0, 1, 2, 3, 0, 0, 0, 0, 0, 0, 0] ++ [12, 0x24, 0x03, 3, 1, 3, 0, 2, 1, 0, 0, 0] ++
  [9, 0x04, 1, 0, 0, 1, 2, 0x20, 0] ++ [9, 0x04, 1, 1, 1, 1, 2, 0x20, 0] ++ [6, 0x24, 0x02, 1, 2, 16] ++
  [7, 0x05, 0x01, 0x05, 196, 0, 1] ++ [8, 0x25, 0x01, 0, 0, 0, 0, 0]

/-- A parameter set together with the proof that the model accepts it. The default values only show that such a set
exists; the model's own parameters are the opaque constant `Config.supplied`, about which nothing else is known. -/
structure SuppliedParams where
  params : Params :=
    { cfgDesc := Config.someConfiguration
      devDesc := [18, 1, 0, 2, 0xEF, 2, 1, 64, 0, 0, 0, 0, 0, 0, 0, 0, 0, 1]
      qualDesc := [0]
      strDesc := { language := [1], manufacturer := [1], product := [1] }
      clockSourceId := 1
      clockSelectorId := 4
      keepaliveToken := [0, 0, 0, 0]
      bufSamples := 2, ringCap := 1, tsBits := 1, numEp := 2 }
  wf : params.Wf := by decide
deriving Inhabited

/-- The OPEN parameters of 00_scope.md R6, supplied with the repository's data. -/
opaque Config.supplied : SuppliedParams

/-- `NUM_EP - 2`, the number of endpoint indices beyond the two that R6 guarantees. R6 sets no upper bound, and neither does
the model; an index past 15 has no event word (log entry 20, DESIGN CHOICE). -/
opaque Config.extraEndpoints : Nat

/-- The parameters of the model: the OPEN ones unknown, the decided ones at the spec's decision
(92_eei_decisions.md D15, D22). `NUM_EP` is written as a number plus 2, so that endpoints 0 and 1 evaluate. -/
def Config.params : Params :=
  { Config.supplied.params with
    numEp := Config.extraEndpoints + 2
    replyClamp := false
    toggleAActive := 0 }

/-- What one read of the consumer is about: one array element or one scalar field (20_memory.md R90). The pending flags, the
receive queue and the IN slot are observed only indirectly (10_state.md R70), so the consumer has no read of them. -/
inductive ConsumerTarget where
  | bufA (i : Nat) | bufB (i : Nat) | ring (j : Nat)
  | wrIdx | ringIdx
  | phase | totalLen | sent | zlpPending | addressPending | pendingAddress
  | devAddr | config | asAlt
  | ep0InStall | ep0OutStall | ep0OutArmed | epIrqUnmasked
  | isoActive | isoMps | isoArmed | isoRem
  | sampleRate | clockValid | clockLocked
deriving DecidableEq, Repr

/-- One step of one agent of 00_scope.md R12: the host with the controller, the timer, the audio peripheral, the
consumer, or the block taking the event of an event word. -/
inductive Action where
  /-- HOST_RESET (60_exceptions.md R363) -/
  | hostReset
  /-- HOST_SETUP p (R365) -/
  | hostSetup (p : List Byte)
  /-- HOST_OUT0 d (R366) -/
  | hostOut0 (d : List Byte)
  /-- HOST_IN0 (R367) -/
  | hostIn0
  /-- HOST_ISO d (R368) -/
  | hostIso (d : List Byte)
  /-- TICK t (R373) -/
  | tick (t : Nat)
  /-- TOGGLE v (R374) -/
  | toggle (v : BitVec 1)
  /-- the consumer reads one element (20_memory.md R90) -/
  | consume (c : ConsumerTarget)
  /-- the block takes the event of this event word (30_encoding.md R120, 46_event_dispatch.md R330); an endpoint index past
  15 has no word, so its events are never taken (log entry 20, DESIGN CHOICE) -/
  | event (e : BitVec 8)
deriving DecidableEq, Repr, Inhabited

/-- FREE VALUE: the `n`-th choice of the schedule that no one has fixed, "a free choice of the schedule"
(46_event_dispatch.md R330, 60_exceptions.md R364, R369). -/
opaque Config.drawnAction : Nat → Action

end Sys2Proof
end

