-- ==== Sys2Proof/Syntax.lean ====
section
/-! DEFINITION. The instructions of the block: one constructor per row of spec/opcode_table.json, in the table's order. A
request carries its whole setup packet, whose fields are its operands (30_encoding.md R111, R123). An endpoint event carries
its endpoint (R120), a receive-status row the fields of its word (R119). -/

namespace Sys2Proof

/-- One constructor per row of spec/opcode_table.json. -/
inductive Instr where
  -- SETUP rows, standard requests
  | getStatus (p : SetupPacket)
  | setAddress (p : SetupPacket)
  | getDescriptorDevice (p : SetupPacket)
  | getDescriptorConfiguration (p : SetupPacket)
  | getDescriptorString (p : SetupPacket)
  | getDescriptorQualifier (p : SetupPacket)
  | getDescriptorOther (p : SetupPacket)
  | getConfiguration (p : SetupPacket)
  | setConfiguration (p : SetupPacket)
  | setInterface (p : SetupPacket)
  | stdUnsupported (p : SetupPacket)
  -- SETUP rows, UAC2 class requests
  | uac2EpAny (p : SetupPacket)
  | uac2BadRecipient (p : SetupPacket)
  | uac2AsAny (p : SetupPacket)
  | uac2BadInterface (p : SetupPacket)
  | uac2FreqGetCur (p : SetupPacket)
  | uac2FreqGetRange (p : SetupPacket)
  | uac2FreqSetCur (p : SetupPacket)
  | uac2FreqOther (p : SetupPacket)
  | uac2ValidGetCur (p : SetupPacket)
  | uac2ValidSetCur (p : SetupPacket)
  | uac2ValidOther (p : SetupPacket)
  | uac2CsBadSelector (p : SetupPacket)
  | uac2CxGetCur (p : SetupPacket)
  | uac2CxSetCur (p : SetupPacket)
  | uac2CxOther (p : SetupPacket)
  | uac2CxBadSelector (p : SetupPacket)
  | uac2AcBadEntity (p : SetupPacket)
  -- SETUP rows, vendor and reserved types
  | vendorKeepalive (p : SetupPacket)
  | vendorUnsupported (p : SetupPacket)
  | reservedType (p : SetupPacket)
  -- EVENT rows
  | evReset
  | evRx
  | evIn (ep : BitVec 4)
  | evOut (ep : BitVec 4)
  -- RXSTS rows
  | rxOutRx (st : RxStatus)
  | rxOutDone (st : RxStatus)
  | rxSetupDone (st : RxStatus)
  | rxSetupRx (st : RxStatus)
  | rxOther (pktsts : BitVec 4) (st : RxStatus)
deriving DecidableEq, Repr

end Sys2Proof
end

