-- ==== Sys2Proof/WellFormed.lean ====
section
/-! DEFINITION. Well-formed instructions, row by row of spec/opcode_table.json: a request's 64-bit word meets the row's mask
and match and its constraint, an endpoint exists, a packet status is none of the four named ones. The decoder follows the
prose of 30_encoding.md R117 instead, so that "decode of encode" compares the two. -/

namespace Sys2Proof

/-- The word of `p` meets a row's mask and match: `W & mask = match` (30_encoding.md, head). -/
def SetupPacket.row (p : SetupPacket) (mask value : BitVec 64) : Bool := p.word &&& mask == value

/-- The operands meet the row of spec/opcode_table.json that the constructor stands for. -/
def Instr.wf (P : Params) : Instr → Bool
  | .getStatus p => p.row 0x000000000000FF60#64 0x0000000000000000#64
  | .setAddress p => p.row 0x000000000000FF60#64 0x0000000000000500#64
  | .getDescriptorDevice p => p.row 0x00000000FF00FF60#64 0x0000000001000600#64
  | .getDescriptorConfiguration p => p.row 0x00000000FF00FF60#64 0x0000000002000600#64
  | .getDescriptorString p => p.row 0x00000000FF00FF60#64 0x0000000003000600#64 && decide (p.dindex.toNat ≤ 2)
  | .getDescriptorQualifier p => p.row 0x00000000FF00FF60#64 0x0000000006000600#64
  | .getDescriptorOther p => p.row 0x000000000000FF60#64 0x0000000000000600#64 &&
      (!([1, 2, 3, 6].contains p.dtype) || (p.dtype == 3 && decide (2 < p.dindex.toNat)))
  | .getConfiguration p => p.row 0x000000000000FF60#64 0x0000000000000800#64
  | .setConfiguration p => p.row 0x000000000000FF60#64 0x0000000000000900#64
  | .setInterface p => p.row 0x000000000000FF60#64 0x0000000000000B00#64
  | .stdUnsupported p => p.row 0x0000000000000060#64 0x0000000000000000#64 &&
      !([0x00, 0x05, 0x06, 0x08, 0x09, 0x0B].contains p.bRequest)
  | .uac2EpAny p => p.row 0x000000000000007F#64 0x0000000000000022#64
  | .uac2BadRecipient p => p.row 0x0000000000000060#64 0x0000000000000020#64 && !([1, 2].contains p.recipient)
  | .uac2AsAny p => p.row 0x000000FF0000007F#64 0x0000000100000021#64
  | .uac2BadInterface p => p.row 0x000000000000007F#64 0x0000000000000021#64 && !([0, 1].contains p.ifn)
  | .uac2FreqGetCur p => p.row 0x000000FFFF00FFFF#64 0x00000000010001A1#64 && p.ent == P.clockSourceId
  | .uac2FreqGetRange p => p.row 0x000000FFFF00FFFF#64 0x00000000010002A1#64 && p.ent == P.clockSourceId
  | .uac2FreqSetCur p => p.row 0x000000FFFF00FFFF#64 0x0000000001000121#64 && p.ent == P.clockSourceId
  | .uac2FreqOther p => p.row 0x000000FFFF00007F#64 0x0000000001000021#64 && p.ent == P.clockSourceId &&
      !([(true, 0x01), (true, 0x02), (false, 0x01)].contains (p.dir, p.bRequest))
  | .uac2ValidGetCur p => p.row 0x000000FFFF00FFFF#64 0x00000000020001A1#64 && p.ent == P.clockSourceId
  | .uac2ValidSetCur p => p.row 0x000000FFFF00FFFF#64 0x0000000002000121#64 && p.ent == P.clockSourceId
  | .uac2ValidOther p => p.row 0x000000FFFF00007F#64 0x0000000002000021#64 && p.ent == P.clockSourceId &&
      !([(true, 0x01), (false, 0x01)].contains (p.dir, p.bRequest))
  | .uac2CsBadSelector p => p.row 0x000000FF0000007F#64 0x0000000000000021#64 && p.ent == P.clockSourceId &&
      !([1, 2].contains p.cs)
  | .uac2CxGetCur p => p.row 0x000000FFFF00FFFF#64 0x00000000010001A1#64 && p.ent == P.clockSelectorId
  | .uac2CxSetCur p => p.row 0x000000FFFF00FFFF#64 0x0000000001000121#64 && p.ent == P.clockSelectorId
  | .uac2CxOther p => p.row 0x000000FFFF00007F#64 0x0000000001000021#64 && p.ent == P.clockSelectorId &&
      !([(true, 0x01), (false, 0x01)].contains (p.dir, p.bRequest))
  | .uac2CxBadSelector p => p.row 0x000000FF0000007F#64 0x0000000000000021#64 && p.ent == P.clockSelectorId &&
      p.cs != 1
  | .uac2AcBadEntity p => p.row 0x000000FF0000007F#64 0x0000000000000021#64 &&
      !([P.clockSourceId, P.clockSelectorId].contains p.ent)
  | .vendorKeepalive p => p.row 0x000000000000FF60#64 0x0000000000000140#64
  | .vendorUnsupported p => p.row 0x0000000000000060#64 0x0000000000000040#64 && p.bRequest != 0x01
  | .reservedType p => p.row 0x0000000000000060#64 0x0000000000000060#64
  | .evReset => true
  | .evRx => true
  | .evIn ep => decide (ep.toNat < P.numEp)
  | .evOut ep => decide (ep.toNat < P.numEp)
  | .rxOutRx _ => true
  | .rxOutDone _ => true
  | .rxSetupDone _ => true
  | .rxSetupRx _ => true
  | .rxOther pktsts _ => !([2, 3, 4, 6].contains pktsts)

end Sys2Proof
end

