-- ==== Sys2Proof/Decode.lean ====
section
/-! DEFINITION. The decoder of the three input formats (30_encoding.md R117, R119, R120, R122), total on any bytes and
rejecting by name; after it the encoder, written from the same formats; and the reading of a word of
spec/opcode_table.json. -/

namespace Sys2Proof

/-- Why bytes are no instruction. Each is raised by `decode` only; each is safe, since no claim about a run can pass it. -/
inductive DecodeRefusal where
  /-- an event word of kind 4 to 15: reserved, never produced, "a model refuses them" (30_encoding.md R120, R122) -/
  | reservedEventKind
  /-- an event word of kind 0 or 1 whose endpoint field is not 0 (30_encoding.md R120) -/
  | endpointNotZero
  /-- an endpoint event of an endpoint index that is not below NUM_EP (46_event_dispatch.md R330) -/
  | noSuchEndpoint
  /-- not as many bytes as the format has: 8, 4 or 1 (30_encoding.md R110, R124) -/
  | wrongLength
deriving DecidableEq, Repr

/-- GET_DESCRIPTOR by descriptor type and string index (30_encoding.md R114, R117). -/
def decodeDescriptor (p : SetupPacket) : Instr :=
  if p.dtype = 1 then .getDescriptorDevice p
  else if p.dtype = 2 then .getDescriptorConfiguration p
  else if p.dtype = 3 then (if p.dindex.toNat ≤ 2 then .getDescriptorString p else .getDescriptorOther p)
  else if p.dtype = 6 then .getDescriptorQualifier p
  else .getDescriptorOther p

/-- Standard requests by `bRequest` (30_encoding.md R113, R117). -/
def decodeStandard (p : SetupPacket) : Instr :=
  if p.bRequest = 0x00 then .getStatus p
  else if p.bRequest = 0x05 then .setAddress p
  else if p.bRequest = 0x06 then decodeDescriptor p
  else if p.bRequest = 0x08 then .getConfiguration p
  else if p.bRequest = 0x09 then .setConfiguration p
  else if p.bRequest = 0x0B then .setInterface p
  else .stdUnsupported p

/-- The sample-frequency control, by (`dir`, `bRequest`) (30_encoding.md R117). -/
def decodeFreq (p : SetupPacket) : Instr :=
  if p.dir = true ∧ p.bRequest = 0x01 then .uac2FreqGetCur p
  else if p.dir = true ∧ p.bRequest = 0x02 then .uac2FreqGetRange p
  else if p.dir = false ∧ p.bRequest = 0x01 then .uac2FreqSetCur p
  else .uac2FreqOther p

/-- The clock-valid control, by (`dir`, `bRequest`) (30_encoding.md R117). -/
def decodeValid (p : SetupPacket) : Instr :=
  if p.dir = true ∧ p.bRequest = 0x01 then .uac2ValidGetCur p
  else if p.dir = false ∧ p.bRequest = 0x01 then .uac2ValidSetCur p
  else .uac2ValidOther p

/-- The clock-selector control, by (`dir`, `bRequest`) (30_encoding.md R117). -/
def decodeSelector (p : SetupPacket) : Instr :=
  if p.dir = true ∧ p.bRequest = 0x01 then .uac2CxGetCur p
  else if p.dir = false ∧ p.bRequest = 0x01 then .uac2CxSetCur p
  else .uac2CxOther p

/-- A class request to the audio-control interface, by entity and control selector; the selector codes are
CS_SAM_FREQ = 1, CS_CLOCK_VALID = 2, CX_CLOCK_SELECTOR = 1 (30_encoding.md R116, R117). Entity 0 and
the two terminals are no exception: they stall (44_uac2_requests.md R274) unless a parameter gives a clock entity the same
ID (log entry 21, DESIGN CHOICE). -/
def decodeEntity (P : Params) (p : SetupPacket) : Instr :=
  if p.ent = P.clockSourceId then
    if p.cs = 0x01 then decodeFreq p
    else if p.cs = 0x02 then decodeValid p
    else .uac2CsBadSelector p
  else if p.ent = P.clockSelectorId then
    if p.cs = 0x01 then decodeSelector p else .uac2CxBadSelector p
  else .uac2AcBadEntity p

/-- Class requests by recipient, then interface (30_encoding.md R117, 44_uac2_requests.md R260). -/
def decodeClass (P : Params) (p : SetupPacket) : Instr :=
  if p.recipient = 2 then .uac2EpAny p
  else if p.recipient ≠ 1 then .uac2BadRecipient p
  else if p.ifn = BitVec.ofNat 8 Config.asIf then .uac2AsAny p
  else if p.ifn ≠ BitVec.ofNat 8 Config.acIf then .uac2BadInterface p
  else decodeEntity P p

/-- Vendor requests by `bRequest` (30_encoding.md R117). -/
def decodeVendor (p : SetupPacket) : Instr :=
  if p.bRequest = 0x01 then .vendorKeepalive p else .vendorUnsupported p

/-- `Decode(p)`: every setup packet decodes to one mnemonic (30_encoding.md R117). -/
def decodeSetup (P : Params) (p : SetupPacket) : Instr :=
  if p.type = 0 then decodeStandard p
  else if p.type = 1 then decodeClass P p
  else if p.type = 2 then decodeVendor p
  else .reservedType p

/-- An event word (30_encoding.md R120); the endpoint of an endpoint event is below NUM_EP (46_event_dispatch.md R330). A
non-zero endpoint in kinds 0 and 1 and an endpoint that does not exist are refused (log entry 8, DEDUCED); the 4-bit field
names endpoints 0 to 15 only, whatever NUM_EP is (log entry 20, DESIGN CHOICE). -/
def decodeEvent (P : Params) (e : BitVec 8) : Except DecodeRefusal Instr :=
  if eventKind e = 0 then (if eventEp e = 0 then .ok .evReset else .error .endpointNotZero)
  else if eventKind e = 1 then (if eventEp e = 0 then .ok .evRx else .error .endpointNotZero)
  else if eventKind e = 2 then
    (if (eventEp e).toNat < P.numEp then .ok (.evIn (eventEp e)) else .error .noSuchEndpoint)
  else if eventKind e = 3 then
    (if (eventEp e).toNat < P.numEp then .ok (.evOut (eventEp e)) else .error .noSuchEndpoint)
  else .error .reservedEventKind

/-- A receive-status word, by `PKTSTS`: 2, 3, 4 and 6 are the named statuses, every other code is OTHER
(30_encoding.md R119). -/
def decodeRxStatus (w : BitVec 32) : Instr :=
  if rxPktsts w = 2 then .rxOutRx (rxFields w)
  else if rxPktsts w = 3 then .rxOutDone (rxFields w)
  else if rxPktsts w = 4 then .rxSetupDone (rxFields w)
  else if rxPktsts w = 6 then .rxSetupRx (rxFields w)
  else .rxOther (rxPktsts w) (rxFields w)

/-- A 32-bit word from its 4 bytes, least significant first. -/
def word32 (b : List Byte) : BitVec 32 := byteAt b 3 ++ byteAt b 2 ++ byteAt b 1 ++ byteAt b 0

/-- The decoder: the bytes of one input of the given format to an instruction, or a refusal by name. -/
def decode (P : Params) (f : Format) (b : List Byte) : Except DecodeRefusal Instr :=
  match f with
  | .setup => if b.length = 8 then .ok (decodeSetup P (parsePacket b)) else .error .wrongLength
  | .rxsts => if b.length = 4 then .ok (decodeRxStatus (word32 b)) else .error .wrongLength
  | .event => if b.length = 1 then decodeEvent P (byteAt b 0) else .error .wrongLength

/-! The encoder. -/

/-- The input format an instruction belongs to (30_encoding.md R110). -/
def Instr.format : Instr → Format
  | .evReset | .evRx | .evIn _ | .evOut _ => .event
  | .rxOutRx _ | .rxOutDone _ | .rxSetupDone _ | .rxSetupRx _ | .rxOther _ _ => .rxsts
  | .getStatus _ | .setAddress _ | .getDescriptorDevice _ | .getDescriptorConfiguration _ | .getDescriptorString _
  | .getDescriptorQualifier _ | .getDescriptorOther _ | .getConfiguration _ | .setConfiguration _ | .setInterface _
  | .stdUnsupported _ | .uac2EpAny _ | .uac2BadRecipient _ | .uac2AsAny _ | .uac2BadInterface _ | .uac2FreqGetCur _
  | .uac2FreqGetRange _ | .uac2FreqSetCur _ | .uac2FreqOther _ | .uac2ValidGetCur _ | .uac2ValidSetCur _
  | .uac2ValidOther _ | .uac2CsBadSelector _ | .uac2CxGetCur _ | .uac2CxSetCur _ | .uac2CxOther _
  | .uac2CxBadSelector _ | .uac2AcBadEntity _ | .vendorKeepalive _ | .vendorUnsupported _ | .reservedType _ => .setup

/-- The setup packet of a request, nothing for an event or a receive-status row. -/
def Instr.packet? : Instr → Option SetupPacket
  | .evReset | .evRx | .evIn _ | .evOut _ => none
  | .rxOutRx _ | .rxOutDone _ | .rxSetupDone _ | .rxSetupRx _ | .rxOther _ _ => none
  | .getStatus p | .setAddress p | .getDescriptorDevice p | .getDescriptorConfiguration p | .getDescriptorString p
  | .getDescriptorQualifier p | .getDescriptorOther p | .getConfiguration p | .setConfiguration p | .setInterface p
  | .stdUnsupported p | .uac2EpAny p | .uac2BadRecipient p | .uac2AsAny p | .uac2BadInterface p | .uac2FreqGetCur p
  | .uac2FreqGetRange p | .uac2FreqSetCur p | .uac2FreqOther p | .uac2ValidGetCur p | .uac2ValidSetCur p
  | .uac2ValidOther p | .uac2CsBadSelector p | .uac2CxGetCur p | .uac2CxSetCur p | .uac2CxOther p
  | .uac2CxBadSelector p | .uac2AcBadEntity p | .vendorKeepalive p | .vendorUnsupported p | .reservedType p => some p

/-- The bytes of an instruction's word, least significant first: the 8 bytes of a setup packet (30_encoding.md R111), the
event word (R120), the 4 bytes of a receive-status word (R119). -/
def encode : Instr → List Byte
  | .getStatus p | .setAddress p | .getDescriptorDevice p | .getDescriptorConfiguration p | .getDescriptorString p
  | .getDescriptorQualifier p | .getDescriptorOther p | .getConfiguration p | .setConfiguration p | .setInterface p
  | .stdUnsupported p | .uac2EpAny p | .uac2BadRecipient p | .uac2AsAny p | .uac2BadInterface p | .uac2FreqGetCur p
  | .uac2FreqGetRange p | .uac2FreqSetCur p | .uac2FreqOther p | .uac2ValidGetCur p | .uac2ValidSetCur p
  | .uac2ValidOther p | .uac2CsBadSelector p | .uac2CxGetCur p | .uac2CxSetCur p | .uac2CxOther p
  | .uac2CxBadSelector p | .uac2AcBadEntity p | .vendorKeepalive p | .vendorUnsupported p | .reservedType p => p.bytes
  | .evReset => [eventWord 0 0]
  | .evRx => [eventWord 1 0]
  | .evIn ep => [eventWord 2 ep]
  | .evOut ep => [eventWord 3 ep]
  | .rxOutRx st => leBytes 4 (rxWord 2 st).toNat
  | .rxOutDone st => leBytes 4 (rxWord 3 st).toNat
  | .rxSetupDone st => leBytes 4 (rxWord 4 st).toNat
  | .rxSetupRx st => leBytes 4 (rxWord 6 st).toNat
  | .rxOther pktsts st => leBytes 4 (rxWord pktsts st).toNat

/-! The words of spec/opcode_table.json. -/

/-- The format of a table word that has `nbits` bits (log entry 4). Up to 8 bits it is an event word of kind 0 to 3 for an
endpoint that every controller has, else a setup row cut after its first byte. From 17 to 32 bits it is one of the four
GET_DESCRIPTOR rows of table orders 3 to 6 if it meets that row, else a receive-status word. -/
def tableFormat (nbits w : Nat) : Option Format :=
  let v := BitVec.ofNat 64 w
  if nbits ≤ 8 then
    (if (v.extractLsb' 4 4).toNat ≤ 1 ∧ v.extractLsb' 0 4 = 0#4 then some .event
     else if 2 ≤ (v.extractLsb' 4 4).toNat ∧ (v.extractLsb' 4 4).toNat ≤ 3 ∧ (v.extractLsb' 0 4).toNat ≤ 1 then some .event
     else some .setup)
  else if nbits ≤ 16 then some .setup
  else if nbits ≤ 32 then
    (if v &&& 0xFF60#64 = 0x0600#64 ∧ [1#8, 2#8, 3#8, 6#8].contains (v.extractLsb' 24 8) = true then some .setup
     else some .rxsts)
  else if nbits ≤ 64 then some .setup
  else none

/-- The number of bytes of a format (30_encoding.md R124, R119, R120). -/
def Format.bytes : Format → Nat
  | .setup => 8
  | .rxsts => 4
  | .event => 1

/-- The instruction the decoder reads from a word of spec/opcode_table.json of `nbits` bits, every bit above them 0. -/
def decodeTableWord (nbits w : Nat) : Option Instr :=
  match tableFormat nbits w with
  | none => none
  | some f =>
    match decode Config.params f (leBytes f.bytes (w % 2 ^ nbits)) with
    | .ok i => some i
    | .error _ => none

end Sys2Proof
end

