-- ==== Sys2Proof/Machine/State.lean ====
section
/-! DEFINITION. The state record of 10_state.md R30, grouped as that rule groups it, with the environment's two values
(60_exceptions.md section 3) and the model's own schedule; the reasons a step can stop; and the state at power-on
(70_reset_and_hazards.md R400). -/

namespace Sys2Proof.Machine

/-- The phases of a control transfer (10_state.md R31). `dataOut` and `statusIn` are kept although no rule enters them
(90_conflicts.md C5). -/
inductive Phase where
  | idle | setup | dataIn | dataOut | statusOut | statusIn
deriving DecidableEq, Repr

/-- The model faults of 60_exceptions.md R361. Raising one writes it into `State.fault` and ends that step; every later
step then stops with it, because "no step of any agent is taken afterwards". Each is safe: a claim about a further step
cannot be proved. -/
inductive Fault where
  /-- raised by EV_OUT of the isochronous endpoint when `iso_rem > ISO_MPS` (45_iso_receive.md R300) -/
  | isoRemOverflow
  /-- raised by EV_OUT of the isochronous endpoint when `ISO_MPS - iso_rem > len(rxpkt)` (45_iso_receive.md R300) -/
  | isoShortData
  /-- raised by EV_RX and RX_SETUP_RX on a setup entry without exactly 8 bytes (46_event_dispatch.md R333) -/
  | badSetupLength
deriving DecidableEq, Repr

/-- Inputs the model has no meaning for. Each is safe: nothing can be proved of a run that goes on after one. -/
inductive Refusal where
  /-- raised by `exec` for an instruction that has no meaning yet; none is left -/
  | notModelled (mnemonic : String)
  /-- raised by the front end for an event word that the decoder refuses (30_encoding.md R122, U19) -/
  | undecodable (r : DecodeRefusal)
  /-- raised by the front end for HOST_SETUP of a length other than 8: it has no step (60_exceptions.md R379) -/
  | setupNotEightBytes
  /-- raised by the front end for HOST_OUT0 of more than EP0_MPS bytes: it has no step (60_exceptions.md R379) -/
  | out0TooLong
  /-- raised by the front end for HOST_ISO of more than ISO_MPS bytes: it has no step (60_exceptions.md R379) -/
  | isoTooLong
deriving DecidableEq, Repr

/-- The packet status of a receive-status entry (10_state.md R51). -/
inductive RxKind where
  | setupRx | outRx | outDone | setupDone
  /-- any other packet-status code -/
  | other (c : BitVec 4)
deriving DecidableEq, Repr

/-- An entry of the receive-status queue (10_state.md R51). -/
structure RxEntry where
  kind : RxKind
  ep : Nat
  bcnt : Nat
  data : List Byte
deriving DecidableEq, Repr

/-- What the host received on EP0 (10_state.md R63). -/
inductive HostEvent where
  | pkt (d : List Byte)
  | stallIn
  | stallOut
deriving DecidableEq, Repr

/-- Control-transfer state (10_state.md R31 to R37). -/
structure Control where
  phase : Phase
  setup : SetupPacket
  buf : Option (List Byte)
  totalLen : Nat
  sent : Nat
  zlpPending : Bool
  pendingAddress : BitVec 7
  addressPending : Bool
deriving DecidableEq, Repr

/-- Device state (10_state.md R38 to R40). -/
structure Device where
  devAddr : BitVec 7
  config : BitVec 8
  asAlt : BitVec 8
deriving DecidableEq, Repr

/-- EP0 registers (10_state.md R41 to R44). -/
structure Ep0 where
  inStall : Bool
  outStall : Bool
  outArmed : Bool
  tx : Option (List Byte)
  irqUnmasked : Bool
deriving DecidableEq, Repr

/-- Isochronous OUT endpoint registers (10_state.md R45 to R49). -/
structure Iso where
  active : Bool
  mps : Nat
  armed : Bool
  rem : Nat
  rxpkt : List Byte
deriving DecidableEq, Repr

/-- Controller event state (10_state.md R50 to R54). The flag arrays have NUM_EP elements. -/
structure Events where
  rstPending : Bool
  rxq : List RxEntry
  iepXfrc : List Bool
  oepXfrc : List Bool
  oepStup : List Bool
deriving DecidableEq, Repr

/-- Clock-source state (10_state.md R55 to R57). -/
structure ClockSource where
  sampleRate : BitVec 32
  valid : Bool
  locked : Bool
deriving DecidableEq, Repr

/-- Audio state (10_state.md R58 to R61). A timestamp of TS_BITS bits is a natural below 2^TS_BITS (log entry 13). -/
structure Audio where
  bufA : List Sample
  bufB : List Sample
  wrIdx : Nat
  ring : List Nat
  ringIdx : Nat
deriving DecidableEq, Repr

/-- The environment's values: the timer's count and the audio peripheral's active-buffer bit (60_exceptions.md R373, R374). -/
structure Env where
  clock : Nat
  toggle : BitVec 1
deriving DecidableEq, Repr

/-- The state record `S` (10_state.md R30) with the environment and the model's schedule. -/
structure State where
  ctl : Control
  dev : Device
  ep0 : Ep0
  iso : Iso
  ev : Events
  clk : ClockSource
  aud : Audio
  /-- `S.fault` (10_state.md R62) -/
  fault : Option Fault
  /-- `S.host_log` (10_state.md R63) -/
  hostLog : List HostEvent
  env : Env
  /-- the model's own: the agents' next steps that are already chosen, the next one first (log entry 2) -/
  schedule : List Action
  /-- the model's own: how many choices of the schedule have been drawn freely (log entry 3) -/
  drawn : Nat
deriving DecidableEq, Repr

/-- What a step or a meaning answers. -/
abbrev Result := Host.Outcome State Fault Refusal

/-- The power-on state of a block with the parameters `P` (70_reset_and_hazards.md R400). The fields R400 calls
"any value" hold the values log entry 1 names. -/
def State.powerOn (P : Params) : State :=
  { ctl :=
      { phase := .idle
        setup := { bmRequestType := 0, bRequest := 0, wValue := 0, wIndex := 0, wLength := 0 }
        buf := none, totalLen := 0, sent := 0, zlpPending := false
        pendingAddress := 0, addressPending := false }
    dev := { devAddr := 0, config := 0, asAlt := 0 }
    ep0 := { inStall := false, outStall := false, outArmed := false, tx := none, irqUnmasked := false }
    iso := { active := false, mps := 0, armed := false, rem := 0, rxpkt := [] }
    ev :=
      { rstPending := false, rxq := []
        iepXfrc := List.replicate P.numEp false
        oepXfrc := List.replicate P.numEp false
        oepStup := List.replicate P.numEp false }
    clk := { sampleRate := Config.rateInit, valid := true, locked := false }
    aud :=
      { bufA := List.replicate P.bufSamples 0, bufB := List.replicate P.bufSamples 0, wrIdx := 0
        ring := List.replicate P.ringCap 0, ringIdx := 0 }
    fault := none
    hostLog := []
    env := { clock := 0, toggle := 0 }
    schedule := []
    drawn := 0 }

/-- The machine right after reset: its power-on state (70_reset_and_hazards.md R400). -/
def State.reset : State := State.powerOn Config.params

end Sys2Proof.Machine
end

