-- ==== Sys2Proof/Machine/Ops.lean ====
section
/-! DEFINITION. The named operations over the state: an update of one group of fields each, the controller primitives, the
send engine and the stall of the sequencer (41_control_sequencer.md), the descriptor server's length rule
(43_descriptor_server.md R235), arming the isochronous endpoint (45_iso_receive.md R307), the inputs (60_exceptions.md R373,
R374), recording a fault (R361), popping a receive-status entry (46_event_dispatch.md R332) and the SETUP stage
(41_control_sequencer.md R151).

Taking an exception: the block has none in the processor's sense. It takes an event as one atomic handler that saves no
state, changes no mode and has no vector, and a handler returns by ending (60_exceptions.md R370, R371); its one error report
is `stall0` (R360) and the one model fault operation is `raiseFault` (R361). -/

namespace Sys2Proof.Machine

/-- Update the control-transfer state, and nothing else. -/
def State.onCtl (f : Control → Control) (s : State) : State := { s with ctl := f s.ctl }
/-- Update the device state, and nothing else. -/
def State.onDev (f : Device → Device) (s : State) : State := { s with dev := f s.dev }
/-- Update the EP0 registers, and nothing else. -/
def State.onEp0 (f : Ep0 → Ep0) (s : State) : State := { s with ep0 := f s.ep0 }
/-- Update the isochronous endpoint registers, and nothing else. -/
def State.onIso (f : Iso → Iso) (s : State) : State := { s with iso := f s.iso }
/-- Update the controller event state, and nothing else. -/
def State.onEv (f : Events → Events) (s : State) : State := { s with ev := f s.ev }
/-- Update the audio state, and nothing else. -/
def State.onAud (f : Audio → Audio) (s : State) : State := { s with aud := f s.aud }
/-- Update the environment's values, and nothing else. -/
def State.onEnv (f : Env → Env) (s : State) : State := { s with env := f s.env }
/-- Append one observation to the host's log, and nothing else. -/
def State.logHost (e : HostEvent) (s : State) : State := { s with hostLog := s.hostLog ++ [e] }

/-- `raise Fault(reason)`: write `S.fault`; the caller ends the step (60_exceptions.md R361). -/
def raiseFault (r : Fault) (s : State) : State := { s with fault := some r }

/-- `Now()`: `E.clock mod 2^TS_BITS` (60_exceptions.md R373). -/
def now (P : Params) (s : State) : Nat := s.env.clock % 2 ^ P.tsBits

/-- `Toggle()`: the audio peripheral's active-buffer bit (60_exceptions.md R374). -/
def toggle (s : State) : BitVec 1 := s.env.toggle

/-! Controller primitives. -/

/-- `TxPacket0(d)`: load a packet into the EP0 IN slot, replacing any packet there (41_control_sequencer.md R160). -/
def txPacket0 (d : List Byte) (s : State) : State := s.onEp0 fun e => { e with tx := some d }

/-- `ArmOut0()`: EP0 OUT accepts one packet (41_control_sequencer.md R161). -/
def armOut0 (s : State) : State := s.onEp0 fun e => { e with outArmed := true }

/-- `ArmIso()`: arm the isochronous endpoint for one more max-size packet (45_iso_receive.md R307). -/
def armIso (s : State) : State := s.onIso fun i => { i with rem := Config.isoMps, armed := true }

/-! The sequencer. -/

/-- Write the phase, and nothing else. -/
def setPhase (ph : Phase) (s : State) : State := s.onCtl fun c => { c with phase := ph }

/-- `Stall0()`: both EP0 stall bits set, phase `Idle`, the IN slot kept (41_control_sequencer.md R157). -/
def stall0 (s : State) : State := setPhase .idle (s.onEp0 fun e => { e with inStall := true, outStall := true })

/-- The packet the next packet step of the data phase sends: `min(rem, EP0_MPS)` bytes from `sent`
(41_control_sequencer.md R155), fewer where the buffer ends before (log entry 5, DESIGN CHOICE). -/
def nextPacket (c : Control) : List Byte :=
  slice (c.buf.getD []) c.sent (min (c.totalLen - c.sent) Config.ep0Mps)

/-- The control state after the packet step has sent `k` bytes: `sent` advances, and a packet of exactly 64 bytes that
completes the transfer marks the trailing ZLP (41_control_sequencer.md R155). -/
def afterPacket (k : Nat) (c : Control) : Control :=
  { c with
    sent := c.sent + k
    zlpPending := if k = Config.ep0Mps ∧ c.sent + k = c.totalLen then true else c.zlpPending }

/-- `SendStep()`: the next packet of the data phase, the ZLP, or the end of the data phase
(41_control_sequencer.md R155). With `sent` above `total_len`, which 10_state.md R69 rules out, nothing is left to send
(log entry 5, DESIGN CHOICE). -/
def sendStep (s : State) : State :=
  if s.ctl.totalLen - s.ctl.sent > 0 then
    (txPacket0 (nextPacket s.ctl) s).onCtl (afterPacket (min (s.ctl.totalLen - s.ctl.sent) Config.ep0Mps))
  else if s.ctl.zlpPending then
    (txPacket0 [] s).onCtl fun c => { c with zlpPending := false }
  else
    armOut0 (setPhase .statusOut s)

/-- The control state in which the data arm of `Send(d, n)` starts (41_control_sequencer.md R154). -/
def startData (d : List Byte) (n : Nat) (c : Control) : Control :=
  { c with phase := .dataIn, buf := some d, totalLen := n, sent := 0, zlpPending := false }

/-- `Send(d, n)`: the zero-length arm, the missing-buffer arm and the data arm, tried in that order
(41_control_sequencer.md R152, R153, R154). -/
def send (d : Option (List Byte)) (n : Nat) (s : State) : State :=
  if n = 0 then
    setPhase .statusOut (txPacket0 [] s)
  else
    match d with
    | none => stall0 s
    | some b => sendStep (s.onCtl (startData b n))

/-- `Reply(d)`: the whole list, or its first `wLength` bytes when REPLY_CLAMP holds (41_control_sequencer.md R163). -/
def reply (P : Params) (d : List Byte) (s : State) : State :=
  send (some d) (if P.replyClamp then min d.length s.ctl.setup.wLength.toNat else d.length) s

/-- `Ack()`: `Send(none, 0)` (41_control_sequencer.md R163). -/
def ack (s : State) : State := send none 0 s

/-- `Serve(d, L)`: `Send(d, min(wLength, L))` (43_descriptor_server.md R235). -/
def serve (d : List Byte) (L : Nat) (s : State) : State :=
  send (some d) (min s.ctl.setup.wLength.toNat L) s

/-- `OnInDone0()`: the IN continuation, only in the data phase (41_control_sequencer.md R156). -/
def onInDone0 (s : State) : State := if s.ctl.phase = .dataIn then sendStep s else s

/-- `OnOutDone0()`: the OUT-status completion (41_control_sequencer.md R158). -/
def onOutDone0 (s : State) : State := if s.ctl.phase = .statusOut then setPhase .idle s else s

/-- The control state after the SETUP stage has recorded the packet `p` (41_control_sequencer.md R151). -/
def recordSetup (p : SetupPacket) (c : Control) : Control :=
  { c with setup := p, phase := .setup, totalLen := p.wLength.toNat, sent := 0 }

/-- `OnSetup(b)`: record the packet, then run the request's handler (41_control_sequencer.md R151). -/
def onSetup (p : SetupPacket) (handler : State → State) (s : State) : State :=
  handler (s.onCtl (recordSetup p))

/-! The receive-status queue. -/

/-- "pop one status word" (46_event_dispatch.md R332). -/
def popRx (s : State) : State := s.onEv fun e => { e with rxq := e.rxq.tail }

/-- The data bytes of the entry at the head of the queue, none of an empty queue. -/
def headData (s : State) : List Byte := ((s.ev.rxq.head?).map RxEntry.data).getD []

/-- Append receive-status entries at the end of the queue (10_state.md R51). -/
def pushRx (es : List RxEntry) (s : State) : State := s.onEv fun e => { e with rxq := e.rxq ++ es }

end Sys2Proof.Machine
end

