-- ==== Sys2Proof/Machine/Flags.lean ====
section
/-! DEFINITION. Every Boolean condition of the block (10_state.md R67): the per-endpoint event flags and when each of the
four events is enabled (46_event_dispatch.md R330, R340; 60_exceptions.md R362). -/

namespace Sys2Proof.Machine

/-- A flag array at endpoint `ep`; there is no flag at an index that is not below NUM_EP. -/
def flagAt (fs : List Bool) (ep : Nat) : Bool := fs.getD ep false

/-- Write `S.iep_xfrc[ep]` (10_state.md R52). -/
def setIepXfrc (ep : Nat) (v : Bool) (s : State) : State := s.onEv fun e => { e with iepXfrc := e.iepXfrc.set ep v }

/-- Write `S.oep_xfrc[ep]` (10_state.md R53). -/
def setOepXfrc (ep : Nat) (v : Bool) (s : State) : State := s.onEv fun e => { e with oepXfrc := e.oepXfrc.set ep v }

/-- Write `S.oep_stup[ep]` (10_state.md R54). -/
def setOepStup (ep : Nat) (v : Bool) (s : State) : State := s.onEv fun e => { e with oepStup := e.oepStup.set ep v }

/-- `BusReset` is enabled (46_event_dispatch.md R330). -/
def resetEnabled (s : State) : Bool := s.ev.rstPending

/-- `RxLevelReady` is enabled (46_event_dispatch.md R330). -/
def rxEnabled (s : State) : Bool := !s.ev.rxq.isEmpty

/-- `InEndpointDone(ep)` is enabled (46_event_dispatch.md R330). -/
def inEnabled (ep : Nat) (s : State) : Bool := s.ep0.irqUnmasked && flagAt s.ev.iepXfrc ep

/-- `OutEndpointDone(ep)` is enabled (46_event_dispatch.md R330). -/
def outEnabled (ep : Nat) (s : State) : Bool :=
  s.ep0.irqUnmasked && (flagAt s.ev.oepXfrc ep || flagAt s.ev.oepStup ep)

end Sys2Proof.Machine
end

