-- ==== Sys2Proof/Machine/Pipeline.lean ====
section
/-! DEFINITION. The isochronous receive pipeline `IsoReceive` and its steps (45_iso_receive.md R300 to R307). -/

namespace Sys2Proof.Machine

/-- The two sample buffers (10_state.md R58). -/
inductive Buffer where
  | A | B
deriving DecidableEq, Repr

/-- The fault `IsoReceive` raises before it writes anything, if any (45_iso_receive.md R300, R301). -/
def isoFault (s : State) : Option Fault :=
  if s.iso.rem > Config.isoMps then some .isoRemOverflow
  else if Config.isoMps - s.iso.rem > s.iso.rxpkt.length then some .isoShortData
  else none

/-- Byte count `n = ISO_MPS - S.iso_rem` (45_iso_receive.md R301). -/
def isoCount (s : State) : Nat := Config.isoMps - s.iso.rem

/-- Buffer selector: the buffer the toggle does not name as active (45_iso_receive.md R302). -/
def target (P : Params) (s : State) : Buffer := if toggle s = P.toggleAActive then .B else .A

/-- Write one sample into one element of one buffer. -/
def writeSample (b : Buffer) (i : Nat) (v : Sample) (a : Audio) : Audio :=
  match b with
  | .A => { a with bufA := a.bufA.set i v }
  | .B => { a with bufB := a.bufB.set i v }

/-- The left sample of group `g`: `le16(d[4g], d[4g+1])` (45_iso_receive.md R303). -/
def leftSample (d : List Byte) (g : Nat) : Sample := le16 (byteAt d (4 * g)) (byteAt d (4 * g + 1))

/-- The right sample of group `g`: `le16(d[4g+2], d[4g+3])` (45_iso_receive.md R303). -/
def rightSample (d : List Byte) (g : Nat) : Sample := le16 (byteAt d (4 * g + 2)) (byteAt d (4 * g + 3))

/-- Group `g` of packet `d` into buffer `b`: left sample, right sample, then the write index advances by 2 and wraps
(45_iso_receive.md R303, R304). -/
def writeGroup (P : Params) (b : Buffer) (d : List Byte) (a : Audio) (g : Nat) : Audio :=
  let a1 := writeSample b a.wrIdx (leftSample d g) a
  let a2 := writeSample b (a1.wrIdx + 1) (rightSample d g) a1
  { a2 with wrIdx := (a2.wrIdx + 2) % P.bufSamples }

/-- Sample demultiplexer: groups 0 to `k - 1` in order; a trailing partial group is not read (45_iso_receive.md R303). -/
def demux (P : Params) (b : Buffer) (d : List Byte) (k : Nat) (a : Audio) : Audio :=
  (List.range k).foldl (writeGroup P b d) a

/-- Timestamp capture: the slot is written, then the ring index advances by the mask (45_iso_receive.md R305, R306). -/
def stamp (P : Params) (t : Nat) (a : Audio) : Audio :=
  { a with ring := a.ring.set a.ringIdx t, ringIdx := (a.ringIdx + 1) &&& (P.ringCap - 1) }

/-- `IsoReceive()` past its two fault checks (45_iso_receive.md R300). -/
def isoReceive (P : Params) (s : State) : State :=
  armIso (s.onAud fun a => stamp P (now P s) (demux P (target P s) s.iso.rxpkt (isoCount s / 4) a))

end Sys2Proof.Machine
end

