-- ==== Sys2Proof/Machine/Descriptors.lean ====
section
/-! DEFINITION. The descriptor server's requests (43_descriptor_server.md R236 to R240). -/

namespace Sys2Proof.Machine

/-- `STR_DESC[i]` for string index `i ≤ 2` (43_descriptor_server.md R230). -/
def stringTable (P : Params) (i : Byte) : Option (List Byte) :=
  if i = 0 then some P.strDesc.language
  else if i = 1 then some P.strDesc.manufacturer
  else if i = 2 then some P.strDesc.product
  else none

/-- R236. -/
def getDescriptorDevice (s : State) : State := serve Config.params.devDesc Config.devDescLen s

/-- R237: `CFG_DESC_LEN` is the length of `CFG_DESC` (00_scope.md R6). -/
def getDescriptorConfiguration (s : State) : State := serve Config.params.cfgDesc Config.params.cfgDesc.length s

/-- R238: the length is the table's own first byte. An index past 2 decodes to GET_DESCRIPTOR_OTHER and stalls (R240). -/
def getDescriptorString (s : State) : State :=
  match stringTable Config.params s.ctl.setup.dindex with
  | some d => serve d (byteAt d 0).toNat s
  | none => stall0 s

/-- R239: `QUAL_DESC_LEN` is the length of `QUAL_DESC` (00_scope.md R6). -/
def getDescriptorQualifier (s : State) : State := serve Config.params.qualDesc Config.params.qualDesc.length s

/-- R240. -/
def getDescriptorOther (s : State) : State := stall0 s

/-- GET_DESCRIPTOR_DEVICE (R236). -/
def execGetDescriptorDevice (p : SetupPacket) (s : State) : Result := .next (onSetup p getDescriptorDevice s)
/-- GET_DESCRIPTOR_CONFIGURATION (R237). -/
def execGetDescriptorConfiguration (p : SetupPacket) (s : State) : Result := .next (onSetup p getDescriptorConfiguration s)
/-- GET_DESCRIPTOR_STRING (R238). -/
def execGetDescriptorString (p : SetupPacket) (s : State) : Result := .next (onSetup p getDescriptorString s)
/-- GET_DESCRIPTOR_QUALIFIER (R239). -/
def execGetDescriptorQualifier (p : SetupPacket) (s : State) : Result := .next (onSetup p getDescriptorQualifier s)
/-- GET_DESCRIPTOR_OTHER (R240). -/
def execGetDescriptorOther (p : SetupPacket) (s : State) : Result := .next (onSetup p getDescriptorOther s)

end Sys2Proof.Machine
end

