-- ==== Sys2Proof/Machine/Standard.lean ====
section
/-! DEFINITION. The standard, vendor and reserved-type requests other than GET_DESCRIPTOR (42_standard_requests.md). Each
meaning is the SETUP stage of 41_control_sequencer.md R151 with the request's own handler. -/

namespace Sys2Proof.Machine

/-- R191: two zero bytes, whatever the operands. -/
def getStatus (s : State) : State := reply Config.params [0x00, 0x00] s

/-- R192: the address register is written at once, before the ACK. -/
def setAddress (s : State) : State :=
  if s.ctl.setup.wValue > Config.addrMax ∨ s.ctl.setup.wIndex ≠ 0 ∨ s.ctl.setup.wLength ≠ 0 then stall0 s
  else ack (s.onDev fun d => { d with devAddr := s.ctl.setup.wValue.extractLsb' 0 7 })

/-- R194: the current configuration byte. -/
def getConfiguration (s : State) : State := reply Config.params [s.dev.config] s

/-- R195: values 0 and 1 only; value 1 sets the isochronous endpoint's enable bit, value 0 leaves it. -/
def setConfiguration (s : State) : State :=
  if s.ctl.setup.wValue > 1 then stall0 s
  else
    let s1 := s.onDev fun d => { d with config := s.ctl.setup.wValue.extractLsb' 0 8 }
    ack (if s.ctl.setup.wValue = 1 then s1.onIso fun i => { i with active := true } else s1)

/-- R196: interface 0 has alternate 0 only; interface 1 has alternate 0, which disables the isochronous endpoint, and
alternate 1, which enables and arms it. -/
def setInterface (s : State) : State :=
  if s.ctl.setup.wIndex.toNat = Config.acIf ∧ s.ctl.setup.wValue = 0 then ack s
  else if s.ctl.setup.wIndex.toNat = Config.asIf ∧ s.ctl.setup.wValue = 0 then
    ack ((s.onDev fun d => { d with asAlt := 0 }).onIso fun i => { i with active := false, armed := false })
  else if s.ctl.setup.wIndex.toNat = Config.asIf ∧ s.ctl.setup.wValue = 1 then
    ack (armIso ((s.onDev fun d => { d with asAlt := 1 }).onIso fun i => { i with active := true, mps := Config.isoMps }))
  else stall0 s

/-- R197. -/
def stdUnsupported (s : State) : State := stall0 s

/-- R198: the fixed 4-byte token. -/
def vendorKeepalive (s : State) : State := reply Config.params Config.params.keepaliveToken s

/-- R199. -/
def vendorUnsupported (s : State) : State := stall0 s

/-- R200. -/
def reservedType (s : State) : State := stall0 s

/-- GET_STATUS (R191). -/
def execGetStatus (p : SetupPacket) (s : State) : Result := .next (onSetup p getStatus s)
/-- SET_ADDRESS (R192). -/
def execSetAddress (p : SetupPacket) (s : State) : Result := .next (onSetup p setAddress s)
/-- GET_CONFIGURATION (R194). -/
def execGetConfiguration (p : SetupPacket) (s : State) : Result := .next (onSetup p getConfiguration s)
/-- SET_CONFIGURATION (R195). -/
def execSetConfiguration (p : SetupPacket) (s : State) : Result := .next (onSetup p setConfiguration s)
/-- SET_INTERFACE (R196). -/
def execSetInterface (p : SetupPacket) (s : State) : Result := .next (onSetup p setInterface s)
/-- STD_UNSUPPORTED (R197). -/
def execStdUnsupported (p : SetupPacket) (s : State) : Result := .next (onSetup p stdUnsupported s)
/-- VENDOR_KEEPALIVE (R198). -/
def execVendorKeepalive (p : SetupPacket) (s : State) : Result := .next (onSetup p vendorKeepalive s)
/-- VENDOR_UNSUPPORTED (R199). -/
def execVendorUnsupported (p : SetupPacket) (s : State) : Result := .next (onSetup p vendorUnsupported s)
/-- RESERVED_TYPE (R200). -/
def execReservedType (p : SetupPacket) (s : State) : Result := .next (onSetup p reservedType s)

end Sys2Proof.Machine
end

