-- ==== Sys2Proof/Machine/Uac2.lean ====
section
/-! DEFINITION. The UAC2 class requests (44_uac2_requests.md R260 to R278). The data stage of an accepted SET request is
never read (R278): its packet is popped as an OUT_RX entry and discarded. -/

namespace Sys2Proof.Machine

/-- R276: endpoint recipient: ACK whatever the request is. -/
def uac2EpAny (s : State) : State := ack s

/-- R261: any recipient other than interface and endpoint. -/
def uac2BadRecipient (s : State) : State := stall0 s

/-- R275: the streaming interface: ACK whatever the request is. -/
def uac2AsAny (s : State) : State := ack s

/-- R277: a third interface. -/
def uac2BadInterface (s : State) : State := stall0 s

/-- R262: the sample rate, 4 little-endian bytes. -/
def uac2FreqGetCur (s : State) : State := reply Config.params (leBytes 4 s.clk.sampleRate.toNat) s

/-- R263: one subrange: count, minimum, maximum, resolution. -/
def uac2FreqGetRange (s : State) : State := reply Config.params
    (leBytes 2 1 ++ leBytes 4 Config.rangeMin ++ leBytes 4 Config.rangeMax ++ leBytes 4 Config.rangeRes) s

/-- R264: accepted and ACKed, no effect on the rate. -/
def uac2FreqSetCur (s : State) : State := ack s

/-- R265: any other sample-frequency request. -/
def uac2FreqOther (s : State) : State := stall0 s

/-- R266: the clock-valid flag as one byte. -/
def uac2ValidGetCur (s : State) : State := reply Config.params [if s.clk.valid then 0x01 else 0x00] s

/-- R267: the clock-valid control is read-only. -/
def uac2ValidSetCur (s : State) : State := stall0 s

/-- R268: any other clock-valid request. -/
def uac2ValidOther (s : State) : State := stall0 s

/-- R269: unknown control selector of the clock source. -/
def uac2CsBadSelector (s : State) : State := stall0 s

/-- R270: the one clock-source entity ID. -/
def uac2CxGetCur (s : State) : State := reply Config.params [Config.params.clockSourceId] s

/-- R271: accepted and ACKed, nothing to select. -/
def uac2CxSetCur (s : State) : State := ack s

/-- R272: any other clock-selector request. -/
def uac2CxOther (s : State) : State := stall0 s

/-- R273: unknown control selector of the clock selector. -/
def uac2CxBadSelector (s : State) : State := stall0 s

/-- R274: any other entity. -/
def uac2AcBadEntity (s : State) : State := stall0 s

/-- UAC2_EP_ANY (R276). -/
def execUac2EpAny (p : SetupPacket) (s : State) : Result := .next (onSetup p uac2EpAny s)
/-- UAC2_BAD_RECIPIENT (R261). -/
def execUac2BadRecipient (p : SetupPacket) (s : State) : Result := .next (onSetup p uac2BadRecipient s)
/-- UAC2_AS_ANY (R275). -/
def execUac2AsAny (p : SetupPacket) (s : State) : Result := .next (onSetup p uac2AsAny s)
/-- UAC2_BAD_INTERFACE (R277). -/
def execUac2BadInterface (p : SetupPacket) (s : State) : Result := .next (onSetup p uac2BadInterface s)
/-- UAC2_FREQ_GET_CUR (R262). -/
def execUac2FreqGetCur (p : SetupPacket) (s : State) : Result := .next (onSetup p uac2FreqGetCur s)
/-- UAC2_FREQ_GET_RANGE (R263). -/
def execUac2FreqGetRange (p : SetupPacket) (s : State) : Result := .next (onSetup p uac2FreqGetRange s)
/-- UAC2_FREQ_SET_CUR (R264). -/
def execUac2FreqSetCur (p : SetupPacket) (s : State) : Result := .next (onSetup p uac2FreqSetCur s)
/-- UAC2_FREQ_OTHER (R265). -/
def execUac2FreqOther (p : SetupPacket) (s : State) : Result := .next (onSetup p uac2FreqOther s)
/-- UAC2_VALID_GET_CUR (R266). -/
def execUac2ValidGetCur (p : SetupPacket) (s : State) : Result := .next (onSetup p uac2ValidGetCur s)
/-- UAC2_VALID_SET_CUR (R267). -/
def execUac2ValidSetCur (p : SetupPacket) (s : State) : Result := .next (onSetup p uac2ValidSetCur s)
/-- UAC2_VALID_OTHER (R268). -/
def execUac2ValidOther (p : SetupPacket) (s : State) : Result := .next (onSetup p uac2ValidOther s)
/-- UAC2_CS_BAD_SELECTOR (R269). -/
def execUac2CsBadSelector (p : SetupPacket) (s : State) : Result := .next (onSetup p uac2CsBadSelector s)
/-- UAC2_CX_GET_CUR (R270). -/
def execUac2CxGetCur (p : SetupPacket) (s : State) : Result := .next (onSetup p uac2CxGetCur s)
/-- UAC2_CX_SET_CUR (R271). -/
def execUac2CxSetCur (p : SetupPacket) (s : State) : Result := .next (onSetup p uac2CxSetCur s)
/-- UAC2_CX_OTHER (R272). -/
def execUac2CxOther (p : SetupPacket) (s : State) : Result := .next (onSetup p uac2CxOther s)
/-- UAC2_CX_BAD_SELECTOR (R273). -/
def execUac2CxBadSelector (p : SetupPacket) (s : State) : Result := .next (onSetup p uac2CxBadSelector s)
/-- UAC2_AC_BAD_ENTITY (R274). -/
def execUac2AcBadEntity (p : SetupPacket) (s : State) : Result := .next (onSetup p uac2AcBadEntity s)

end Sys2Proof.Machine
end

