-- ==== Sys2Proof/Machine/Requests.lean ====
section
/-! DEFINITION. The request dispatcher: it runs the handler of the mnemonic a setup packet decodes to
(42_standard_requests.md R190, 30_encoding.md R118). -/

namespace Sys2Proof.Machine

/-- Run a decoded request. The decoder of setup packets answers requests only, so the last arm is never taken
(`decodeSetup_isRequest`). -/
def runRequest (i : Instr) (s : State) : Result :=
  match i with
  | .getStatus p => execGetStatus p s
  | .setAddress p => execSetAddress p s
  | .getDescriptorDevice p => execGetDescriptorDevice p s
  | .getDescriptorConfiguration p => execGetDescriptorConfiguration p s
  | .getDescriptorString p => execGetDescriptorString p s
  | .getDescriptorQualifier p => execGetDescriptorQualifier p s
  | .getDescriptorOther p => execGetDescriptorOther p s
  | .getConfiguration p => execGetConfiguration p s
  | .setConfiguration p => execSetConfiguration p s
  | .setInterface p => execSetInterface p s
  | .stdUnsupported p => execStdUnsupported p s
  | .uac2EpAny p => execUac2EpAny p s
  | .uac2BadRecipient p => execUac2BadRecipient p s
  | .uac2AsAny p => execUac2AsAny p s
  | .uac2BadInterface p => execUac2BadInterface p s
  | .uac2FreqGetCur p => execUac2FreqGetCur p s
  | .uac2FreqGetRange p => execUac2FreqGetRange p s
  | .uac2FreqSetCur p => execUac2FreqSetCur p s
  | .uac2FreqOther p => execUac2FreqOther p s
  | .uac2ValidGetCur p => execUac2ValidGetCur p s
  | .uac2ValidSetCur p => execUac2ValidSetCur p s
  | .uac2ValidOther p => execUac2ValidOther p s
  | .uac2CsBadSelector p => execUac2CsBadSelector p s
  | .uac2CxGetCur p => execUac2CxGetCur p s
  | .uac2CxSetCur p => execUac2CxSetCur p s
  | .uac2CxOther p => execUac2CxOther p s
  | .uac2CxBadSelector p => execUac2CxBadSelector p s
  | .uac2AcBadEntity p => execUac2AcBadEntity p s
  | .vendorKeepalive p => execVendorKeepalive p s
  | .vendorUnsupported p => execVendorUnsupported p s
  | .reservedType p => execReservedType p s
  | .evReset | .evRx | .evIn _ | .evOut _ | .rxOutRx _ | .rxOutDone _ | .rxSetupDone _ | .rxSetupRx _ | .rxOther _ _ =>
    .next s

end Sys2Proof.Machine
end

