-- ==== Sys2Proof/Machine/RxStatus.lean ====
section
/-! DEFINITION. The receive-status rows (46_event_dispatch.md R332 to R337). The meaning of such a row is the RX handler on
an entry with that packet status: the entry at the head of the queue is popped, then the row's arm runs. R332 runs only on
a non-empty queue; on an empty one nothing is popped and the row's arm runs all the same (log entry 6, DESIGN CHOICE). -/

namespace Sys2Proof.Machine

/-- The SETUP_RX arm: 8 bytes are a setup packet, whose request runs; any other length is a fault
(46_event_dispatch.md R333). -/
def setupArm (bcnt : Nat) (data : List Byte) (s : State) : Result :=
  if bcnt ≠ 8 ∨ data.length ≠ 8 then .next (raiseFault .badSetupLength s)
  else runRequest (decodeSetup Config.params (parsePacket data)) s

/-- RX_OUT_RX (R334): the entry carries its bytes, so popping it drains them. -/
def execRxOutRx (_st : RxStatus) (s : State) : Result := .next (popRx s)

/-- RX_OUT_DONE (R335): EP0 OUT is re-armed, whatever the entry's endpoint is; so it is on an empty queue, which R332 leaves
open (log entry 6, DESIGN CHOICE). -/
def execRxOutDone (_st : RxStatus) (s : State) : Result := .next (armOut0 (popRx s))

/-- RX_SETUP_DONE (R336): nothing beyond the pop. -/
def execRxSetupDone (_st : RxStatus) (s : State) : Result := .next (popRx s)

/-- RX_SETUP_RX (R333): the byte count is the word's, the bytes are the popped entry's. On an empty queue, which R332 leaves
open, there are no bytes and the fault BadSetupLength is recorded (log entry 6, DESIGN CHOICE). -/
def execRxSetupRx (st : RxStatus) (s : State) : Result := setupArm st.bcnt.toNat (headData s) (popRx s)

/-- RX_OTHER (R337): popped and ignored. -/
def execRxOther (_pktsts : BitVec 4) (_st : RxStatus) (s : State) : Result := .next (popRx s)

end Sys2Proof.Machine
end

