-- ==== Sys2Proof/Machine/Events.lean ====
section
/-! DEFINITION. The four events of the front end (46_event_dispatch.md R330 to R340). An event that is not enabled is not
dispatched: its meaning then leaves the state as it is (R330, log entry 7). -/

namespace Sys2Proof.Machine

/-- `OnBusReset()` (R331). -/
def onBusReset (s : State) : State :=
  setPhase .idle
    ((((s.onEv fun e => { e with rstPending := false })).onEp0 fun e =>
        { e with inStall := false, outStall := false, outArmed := true, tx := none, irqUnmasked := true }).onDev
      fun d => { d with devAddr := 0 })

/-- EV_RESET (R331). -/
def execEvReset (s : State) : Result := .next (if resetEnabled s then onBusReset s else s)

/-- EV_RX: `OnRx()` pops the head entry and runs the arm of its kind (R332 to R337). -/
def execEvRx (s : State) : Result :=
  match s.ev.rxq with
  | [] => .next s
  | e :: _ =>
    match e.kind with
    | .setupRx => setupArm e.bcnt e.data (popRx s)
    | .outRx => .next (popRx s)
    | .outDone => .next (armOut0 (popRx s))
    | .setupDone => .next (popRx s)
    | .other _ => .next (popRx s)

/-- `OnInEp(ep)` (R338). -/
def onInEp (ep : Nat) (s : State) : State :=
  if ep = 0 then onInDone0 (setIepXfrc ep false s) else setIepXfrc ep false s

/-- EV_IN ep (R338). -/
def execEvIn (ep : BitVec 4) (s : State) : Result := .next (if inEnabled ep.toNat s then onInEp ep.toNat s else s)

/-- `OnOutEp(ep)`: a transfer-complete flag is cleared and, for EP0 or the isochronous endpoint, handled; then the
setup-phase-done flag is cleared, unless the pipeline raised a fault, which ends the step (R339, 60_exceptions.md R361). -/
def onOutEp (P : Params) (ep : Nat) (s : State) : State :=
  if flagAt s.ev.oepXfrc ep then
    let s1 := setOepXfrc ep false s
    if ep = 0 then setOepStup ep false (onOutDone0 s1)
    else if ep = Config.isoEp then
      match isoFault s1 with
      | some r => raiseFault r s1
      | none => setOepStup ep false (isoReceive P s1)
    else setOepStup ep false s1
  else setOepStup ep false s

/-- EV_OUT ep (R339). -/
def execEvOut (ep : BitVec 4) (s : State) : Result :=
  .next (if outEnabled ep.toNat s then onOutEp Config.params ep.toNat s else s)

end Sys2Proof.Machine
end

