-- ==== Sys2Proof/Machine/Dispatch.lean ====
section
/-! DEFINITION. One arm per constructor of Instr, each one direct call of its meaning. -/

namespace Sys2Proof.Machine

def exec (i : Instr) (s : State) : Host.Outcome State Fault Refusal :=
  match i with
  | .getStatus p => Sys2Proof.Machine.execGetStatus p s
  | .setAddress p => Sys2Proof.Machine.execSetAddress p s
  | .getDescriptorDevice p => Sys2Proof.Machine.execGetDescriptorDevice p s
  | .getDescriptorConfiguration p => Sys2Proof.Machine.execGetDescriptorConfiguration p s
  | .getDescriptorString p => Sys2Proof.Machine.execGetDescriptorString p s
  | .getDescriptorQualifier p => Sys2Proof.Machine.execGetDescriptorQualifier p s
  | .getDescriptorOther p => Sys2Proof.Machine.execGetDescriptorOther p s
  | .getConfiguration p => Sys2Proof.Machine.execGetConfiguration p s
  | .setConfiguration p => Sys2Proof.Machine.execSetConfiguration p s
  | .setInterface p => Sys2Proof.Machine.execSetInterface p s
  | .stdUnsupported p => Sys2Proof.Machine.execStdUnsupported p s
  | .uac2EpAny p => Sys2Proof.Machine.execUac2EpAny p s
  | .uac2BadRecipient p => Sys2Proof.Machine.execUac2BadRecipient p s
  | .uac2AsAny p => Sys2Proof.Machine.execUac2AsAny p s
  | .uac2BadInterface p => Sys2Proof.Machine.execUac2BadInterface p s
  | .uac2FreqGetCur p => Sys2Proof.Machine.execUac2FreqGetCur p s
  | .uac2FreqGetRange p => Sys2Proof.Machine.execUac2FreqGetRange p s
  | .uac2FreqSetCur p => Sys2Proof.Machine.execUac2FreqSetCur p s
  | .uac2FreqOther p => Sys2Proof.Machine.execUac2FreqOther p s
  | .uac2ValidGetCur p => Sys2Proof.Machine.execUac2ValidGetCur p s
  | .uac2ValidSetCur p => Sys2Proof.Machine.execUac2ValidSetCur p s
  | .uac2ValidOther p => Sys2Proof.Machine.execUac2ValidOther p s
  | .uac2CsBadSelector p => Sys2Proof.Machine.execUac2CsBadSelector p s
  | .uac2CxGetCur p => Sys2Proof.Machine.execUac2CxGetCur p s
  | .uac2CxSetCur p => Sys2Proof.Machine.execUac2CxSetCur p s
  | .uac2CxOther p => Sys2Proof.Machine.execUac2CxOther p s
  | .uac2CxBadSelector p => Sys2Proof.Machine.execUac2CxBadSelector p s
  | .uac2AcBadEntity p => Sys2Proof.Machine.execUac2AcBadEntity p s
  | .vendorKeepalive p => Sys2Proof.Machine.execVendorKeepalive p s
  | .vendorUnsupported p => Sys2Proof.Machine.execVendorUnsupported p s
  | .reservedType p => Sys2Proof.Machine.execReservedType p s
  | .evReset => Sys2Proof.Machine.execEvReset s
  | .evRx => Sys2Proof.Machine.execEvRx s
  | .evIn ep => Sys2Proof.Machine.execEvIn ep s
  | .evOut ep => Sys2Proof.Machine.execEvOut ep s
  | .rxOutRx st => Sys2Proof.Machine.execRxOutRx st s
  | .rxOutDone st => Sys2Proof.Machine.execRxOutDone st s
  | .rxSetupDone st => Sys2Proof.Machine.execRxSetupDone st s
  | .rxSetupRx st => Sys2Proof.Machine.execRxSetupRx st s
  | .rxOther pktsts st => Sys2Proof.Machine.execRxOther pktsts st s

end Sys2Proof.Machine
end

