-- ==== Sys2Proof/Machine/Consumer.lean ====
section
/-! DEFINITION. The consumer: it reads one array element or one scalar field at a time, between two steps, and writes
nothing (20_memory.md R89, R90). What 10_state.md R70 says is observed only indirectly (the pending flags, the receive queue,
the IN slot) it cannot read. -/

namespace Sys2Proof.Machine

/-- The value of one read of the consumer. -/
inductive Observation where
  | sample (v : Sample)
  | number (n : Nat)
  | flag (b : Bool)
  | phase (ph : Phase)
deriving DecidableEq, Repr

/-- What the consumer reads in the present state; nothing at an array index that does not exist (20_memory.md R90). -/
def consumerRead (c : ConsumerTarget) (s : State) : Option Observation :=
  match c with
  | .bufA i => s.aud.bufA[i]?.map .sample
  | .bufB i => s.aud.bufB[i]?.map .sample
  | .ring j => s.aud.ring[j]?.map .number
  | .wrIdx => some (.number s.aud.wrIdx)
  | .ringIdx => some (.number s.aud.ringIdx)
  | .phase => some (.phase s.ctl.phase)
  | .totalLen => some (.number s.ctl.totalLen)
  | .sent => some (.number s.ctl.sent)
  | .zlpPending => some (.flag s.ctl.zlpPending)
  | .addressPending => some (.flag s.ctl.addressPending)
  | .pendingAddress => some (.number s.ctl.pendingAddress.toNat)
  | .devAddr => some (.number s.dev.devAddr.toNat)
  | .config => some (.number s.dev.config.toNat)
  | .asAlt => some (.number s.dev.asAlt.toNat)
  | .ep0InStall => some (.flag s.ep0.inStall)
  | .ep0OutStall => some (.flag s.ep0.outStall)
  | .ep0OutArmed => some (.flag s.ep0.outArmed)
  | .epIrqUnmasked => some (.flag s.ep0.irqUnmasked)
  | .isoActive => some (.flag s.iso.active)
  | .isoMps => some (.number s.iso.mps)
  | .isoArmed => some (.flag s.iso.armed)
  | .isoRem => some (.number s.iso.rem)
  | .sampleRate => some (.number s.clk.sampleRate.toNat)
  | .clockValid => some (.flag s.clk.valid)
  | .clockLocked => some (.flag s.clk.locked)

/-- The consumer's step: a read, which changes nothing (20_memory.md R89). -/
def consume (_c : ConsumerTarget) (s : State) : State := s

end Sys2Proof.Machine
end

