-- ==== Sys2Proof/Machine/Environment.lean ====
section
/-! DEFINITION. The steps of the host with the controller, of the timer and of the audio peripheral (60_exceptions.md R363
to R368, R373, R374). -/

namespace Sys2Proof.Machine

/-- HOST_RESET (R363). -/
def hostReset (s : State) : State := s.onEv fun e => { e with rstPending := true }

/-- HOST_SETUP p, `p` of 8 bytes (R365). -/
def hostSetup (p : List Byte) (s : State) : State :=
  setOepStup 0 true
    (pushRx [{ kind := .setupRx, ep := 0, bcnt := 8, data := p }, { kind := .setupDone, ep := 0, bcnt := 0, data := [] }]
      (s.onEp0 fun e => { e with inStall := false, outStall := false }))

/-- HOST_OUT0 d, `len(d) ≤ EP0_MPS`: a stall takes precedence over a NAK, and a NAK changes nothing (R366). -/
def hostOut0 (d : List Byte) (s : State) : State :=
  if s.ep0.outStall then s.logHost .stallOut
  else if s.ep0.outArmed then
    setOepXfrc 0 true
      (pushRx [{ kind := .outRx, ep := 0, bcnt := d.length, data := d }, { kind := .outDone, ep := 0, bcnt := 0, data := [] }]
        (s.onEp0 fun e => { e with outArmed := false }))
  else s

/-- HOST_IN0: a loaded packet is delivered once (R367). -/
def hostIn0 (s : State) : State :=
  if s.ep0.inStall then s.logHost .stallIn
  else
    match s.ep0.tx with
    | none => s
    | some d => setIepXfrc 0 true ((s.logHost (.pkt d)).onEp0 fun e => { e with tx := none })

/-- HOST_ISO d, `len(d) ≤ ISO_MPS`: a packet to an endpoint that is not enabled and armed is dropped (R368). -/
def hostIso (d : List Byte) (s : State) : State :=
  if s.iso.active && s.iso.armed then
    setOepXfrc Config.isoEp true
      (pushRx [{ kind := .outRx, ep := Config.isoEp, bcnt := d.length, data := d },
               { kind := .outDone, ep := Config.isoEp, bcnt := 0, data := [] }]
        (s.onIso fun i => { i with rxpkt := d, rem := Config.isoMps - d.length, armed := false }))
  else s

/-- TICK t, enabled only when `t ≥ E.clock` (R373); a TICK that is not enabled changes nothing (log entry 7). -/
def tick (t : Nat) (s : State) : State := if s.env.clock ≤ t then s.onEnv fun e => { e with clock := t } else s

/-- TOGGLE v (R374). -/
def toggleTo (v : BitVec 1) (s : State) : State := s.onEnv fun e => { e with toggle := v }

end Sys2Proof.Machine
end

