-- ==== Sys2Proof/Machine/FrontEnd.lean ====
section
/-! DEFINITION. One step of the model: the agent whose step is next takes it (00_scope.md R12, 46_event_dispatch.md R330,
60_exceptions.md R361, R364, R369). Step.lean gives it `exec`. -/

namespace Sys2Proof.Machine

/-- An agent can make this choice: the host keeps its contract (60_exceptions.md R379) and the event word is one the
controller produces (30_encoding.md R120). -/
def producible (a : Action) : Bool :=
  match a with
  | .hostSetup p => p.length == 8
  | .hostOut0 d => decide (d.length ≤ Config.ep0Mps)
  | .hostIso d => decide (d.length ≤ Config.isoMps)
  | .event e =>
    match decodeEvent Config.params e with
    | .ok _ => true
    | .error _ => false
  | .hostReset | .hostIn0 | .tick _ | .toggle _ | .consume _ => true

/-- The next choice of the schedule: the first one already made, else one drawn freely (log entry 3). A drawn choice that
no agent can make is no step, and only the count of draws advances. -/
def nextAction (s : State) : Option Action × State :=
  match s.schedule with
  | a :: rest => (some a, { s with schedule := rest })
  | [] =>
    (if producible (Config.drawnAction s.drawn) then some (Config.drawnAction s.drawn) else none,
      { s with drawn := s.drawn + 1 })

/-- The chosen agent takes its step. `run` is the meaning of a decoded instruction. -/
def act (run : Instr → State → Result) (a : Action) (s : State) : Result :=
  match a with
  | .hostReset => .next (hostReset s)
  | .hostSetup p => if p.length = 8 then .next (hostSetup p s) else .refused .setupNotEightBytes
  | .hostOut0 d => if d.length ≤ Config.ep0Mps then .next (hostOut0 d s) else .refused .out0TooLong
  | .hostIn0 => .next (hostIn0 s)
  | .hostIso d => if d.length ≤ Config.isoMps then .next (hostIso d s) else .refused .isoTooLong
  | .tick t => .next (tick t s)
  | .toggle v => .next (toggleTo v s)
  | .consume c => .next (consume c s)
  | .event e =>
    match decodeEvent Config.params e with
    | .ok i => run i s
    | .error r => .refused (.undecodable r)

/-- One step. A state with a fault takes no step of any agent (60_exceptions.md R361). -/
def frontEnd (run : Instr → State → Result) (s : State) : Result :=
  match s.fault with
  | some f => .fault f
  | none =>
    match nextAction s with
    | (some a, s') => act run a s'
    | (none, s') => .next s'

end Sys2Proof.Machine
end

