-- ==== Sys2Proof/Machine/Placement.lean ====
section
/-! DEFINITION. Placing a word of spec/opcode_table.json where the next step takes it (log entry 4): the block has no
program counter and fetches nothing (10_state.md R66), so a request or a receive-status row becomes the head entry of the
receive-status queue, an event its pending flag, and the schedule's next choice becomes the event that handles it. -/

namespace Sys2Proof.Machine

/-- The receive-status entry of an instruction that comes through the receive-status queue, with BCNT zero bytes of data
where the entry carries data (10_state.md R51). -/
def rxEntryOf (i : Instr) : Option RxEntry :=
  match i with
  | .rxOutRx st =>
    some { kind := .outRx, ep := st.epnum.toNat, bcnt := st.bcnt.toNat, data := List.replicate st.bcnt.toNat 0 }
  | .rxSetupRx st =>
    some { kind := .setupRx, ep := st.epnum.toNat, bcnt := st.bcnt.toNat, data := List.replicate st.bcnt.toNat 0 }
  | .rxOutDone st => some { kind := .outDone, ep := st.epnum.toNat, bcnt := st.bcnt.toNat, data := [] }
  | .rxSetupDone st => some { kind := .setupDone, ep := st.epnum.toNat, bcnt := st.bcnt.toNat, data := [] }
  | .rxOther pktsts st => some { kind := .other pktsts, ep := st.epnum.toNat, bcnt := st.bcnt.toNat, data := [] }
  | .evReset | .evRx | .evIn _ | .evOut _ => none
  | .getStatus p | .setAddress p | .getDescriptorDevice p | .getDescriptorConfiguration p | .getDescriptorString p
  | .getDescriptorQualifier p | .getDescriptorOther p | .getConfiguration p | .setConfiguration p | .setInterface p
  | .stdUnsupported p | .uac2EpAny p | .uac2BadRecipient p | .uac2AsAny p | .uac2BadInterface p | .uac2FreqGetCur p
  | .uac2FreqGetRange p | .uac2FreqSetCur p | .uac2FreqOther p | .uac2ValidGetCur p | .uac2ValidSetCur p
  | .uac2ValidOther p | .uac2CsBadSelector p | .uac2CxGetCur p | .uac2CxSetCur p | .uac2CxOther p
  | .uac2CxBadSelector p | .uac2AcBadEntity p | .vendorKeepalive p | .vendorUnsupported p | .reservedType p =>
    some { kind := .setupRx, ep := 0, bcnt := 8, data := p.bytes }

/-- `s` with the event of word `e` as the schedule's next choice. -/
def scheduleNext (e : BitVec 8) (s : State) : State := { s with fault := none, schedule := .event e :: s.schedule }

/-- `s` with the entry `e` at the head of the receive-status queue. -/
def queueFirst (e : RxEntry) (s : State) : State := s.onEv fun v => { v with rxq := e :: v.rxq }

/-- `s` with the instruction placed so that the next step runs it. -/
def placeInstr (i : Instr) (s : State) : State :=
  match rxEntryOf i with
  | some e => scheduleNext (eventWord 1 0) (queueFirst e s)
  | none =>
    match i with
    | .evReset => scheduleNext (eventWord 0 0) (s.onEv fun v => { v with rstPending := true })
    | .evIn ep =>
      scheduleNext (eventWord 2 ep) (setIepXfrc ep.toNat true (s.onEp0 fun e => { e with irqUnmasked := true }))
    | .evOut ep =>
      scheduleNext (eventWord 3 ep) (setOepStup ep.toNat true (s.onEp0 fun e => { e with irqUnmasked := true }))
    | _ =>
      scheduleNext (eventWord 1 0)
        (if s.ev.rxq.isEmpty then queueFirst { kind := .other 1, ep := 0, bcnt := 0, data := [] } s else s)

/-- `s` with a table word placed so that the next step runs it; a word the decoder refuses is scheduled as an event word,
which the next step refuses. -/
def placeWord (nbits w : Nat) (s : State) : State :=
  match decodeTableWord nbits w with
  | some i => placeInstr i s
  | none => scheduleNext (BitVec.ofNat 8 w) s

end Sys2Proof.Machine
end

