-- ==== Sys2Proof/Machine/Step.lean ====
section
/-! DEFINITION. The step of the machine: the front end with `exec` as the meaning of a decoded instruction. -/

namespace Sys2Proof.Machine

/-- One step of one agent (Machine/FrontEnd.lean). -/
def step (s : State) : Host.Outcome State Fault Refusal := frontEnd exec s

/-- `s` with a word of spec/opcode_table.json placed so that the next step runs it (Machine/Placement.lean). -/
def State.withFetchWord (s : State) (nbits w : Nat) : State := placeWord nbits w s

end Sys2Proof.Machine
end

