-- ==== Sys2Proof/Safety.lean ====
section
/-! DEFINITION. What counts as a good state and what a request leaves, in the terms the claims use: the invariants of
10_state.md R69 with the ranges of the state rules, the outcomes of a request as explicit states (42, 43, 44), the packets
of a data phase (41_control_sequencer.md R159) and the sample sequence of a received packet (45_iso_receive.md R303). -/

namespace Sys2Proof.Machine

/-! The invariant. -/

/-- R69 on the control-transfer state, with the ranges of R31, R34 and R35. -/
structure ControlOk (c : Control) : Prop where
  phase : c.phase = .idle ∨ c.phase = .dataIn ∨ c.phase = .statusOut
  totalLen : c.totalLen ≤ 65535
  sent : c.sent ≤ 65535
  dataPhase : c.phase = .dataIn → c.sent ≤ c.totalLen ∧ ∃ b, c.buf = some b ∧ c.totalLen ≤ b.length

/-- R69 on the device state: the legal values of R39 and R40. -/
structure DeviceOk (d : Device) : Prop where
  config : d.config = 0 ∨ d.config = 1
  asAlt : d.asAlt = 0 ∨ d.asAlt = 1

/-- R43: a loaded packet has at most EP0_MPS bytes. -/
structure Ep0Ok (e : Ep0) : Prop where
  tx : ∀ d, e.tx = some d → d.length ≤ 64

/-- R48 with R69, and R49. -/
structure IsoOk (i : Iso) : Prop where
  rem : i.rem ≤ 196
  rxpkt : i.rxpkt.length ≤ 196

/-- R51: an entry names an endpoint below NUM_EP and carries the bytes it counts; a setup entry has 8 (R365). -/
structure EntryOk (P : Params) (e : RxEntry) : Prop where
  ep : e.ep < P.numEp
  setup : e.kind = .setupRx → e.bcnt = 8 ∧ e.data.length = 8
  out : e.kind = .outRx → e.data.length = e.bcnt

/-- R51 to R54: the queue's entries and the lengths of the flag arrays. -/
structure EventsOk (P : Params) (v : Events) : Prop where
  rxq : ∀ e ∈ v.rxq, EntryOk P e
  iepXfrc : v.iepXfrc.length = P.numEp
  oepXfrc : v.oepXfrc.length = P.numEp
  oepStup : v.oepStup.length = P.numEp

/-- R58 to R61 with R69: array lengths, indices and timestamps in range, the write index even. -/
structure AudioOk (P : Params) (a : Audio) : Prop where
  bufA : a.bufA.length = P.bufSamples
  bufB : a.bufB.length = P.bufSamples
  wrIdx : a.wrIdx < P.bufSamples
  wrEven : a.wrIdx % 2 = 0
  ring : a.ring.length = P.ringCap
  ringIdx : a.ringIdx < P.ringCap
  stamps : ∀ t ∈ a.ring, t < 2 ^ P.tsBits

/-- R301: while the isochronous completion is pending, the endpoint was re-armed since the packet or its remaining size is
the packet's. (R301 says "in every reachable state", which fails at power-on, where `iso_rem` is 0: see NOTES.md.) -/
def CompletionOk (s : State) : Prop :=
  flagAt s.ev.oepXfrc 1 = true → s.iso.rem = 196 ∨ s.iso.rem + s.iso.rxpkt.length = 196

/-- The invariant of the reachable states without a fault (10_state.md R69). -/
structure Invariant (s : State) : Prop where
  ctl : ControlOk s.ctl
  dev : DeviceOk s.dev
  ep0 : Ep0Ok s.ep0
  iso : IsoOk s.iso
  ev : EventsOk Config.params s.ev
  aud : AudioOk Config.params s.aud
  completion : CompletionOk s
  fault : s.fault = none
  hostLog : ∀ d, HostEvent.pkt d ∈ s.hostLog → d.length ≤ 64

/-! The outcomes of a request, written out. Each says every field: what is not named keeps its value. -/

/-- The request `p` was ACKed: a ZLP in the IN slot, phase `StatusOut`; `buf` and `zlp_pending` are kept
(41_control_sequencer.md R151, R152). -/
def State.afterAck (p : SetupPacket) (s : State) : State :=
  { s with
    ctl := { s.ctl with setup := p, phase := .statusOut, totalLen := p.wLength.toNat, sent := 0 }
    ep0 := { s.ep0 with tx := some [] } }

/-- The request `p` was stalled: both stall bits set, phase `Idle`, the IN slot kept (41_control_sequencer.md R151, R157). -/
def State.afterStall (p : SetupPacket) (s : State) : State :=
  { s with
    ctl := { s.ctl with setup := p, phase := .idle, totalLen := p.wLength.toNat, sent := 0 }
    ep0 := { s.ep0 with inStall := true, outStall := true } }

/-- The request `p` started a data phase of the first `n` bytes of `d`, `n > 0`: the first packet is loaded, and a single
packet of exactly 64 bytes marks the trailing ZLP (41_control_sequencer.md R151, R154, R155). -/
def State.afterData (p : SetupPacket) (d : List Byte) (n : Nat) (s : State) : State :=
  { s with
    ctl :=
      { s.ctl with
        setup := p, phase := .dataIn, buf := some d, totalLen := n, sent := min n 64, zlpPending := decide (n = 64) }
    ep0 := { s.ep0 with tx := some (d.take (min n 64)) } }

/-- The request `p` was served the descriptor `d` of true length `L` (43_descriptor_server.md R235). -/
def State.afterServe (p : SetupPacket) (d : List Byte) (L : Nat) (s : State) : State :=
  if min p.wLength.toNat L = 0 then s.afterAck p else s.afterData p d (min p.wLength.toNat L)

/-- `Serves P p i d L`: the GET_DESCRIPTOR request `i` with the packet `p` serves the table `d` of true length `L`
(43_descriptor_server.md R236 to R239). -/
inductive Serves (P : Params) (p : SetupPacket) : Instr → List Byte → Nat → Prop where
  | device : Serves P p (.getDescriptorDevice p) P.devDesc 18
  | configuration : Serves P p (.getDescriptorConfiguration p) P.cfgDesc P.cfgDesc.length
  | qualifier : Serves P p (.getDescriptorQualifier p) P.qualDesc P.qualDesc.length
  | language (h : p.dindex = 0) :
    Serves P p (.getDescriptorString p) P.strDesc.language (byteAt P.strDesc.language 0).toNat
  | manufacturer (h : p.dindex = 1) :
    Serves P p (.getDescriptorString p) P.strDesc.manufacturer (byteAt P.strDesc.manufacturer 0).toNat
  | product (h : p.dindex = 2) :
    Serves P p (.getDescriptorString p) P.strDesc.product (byteAt P.strDesc.product 0).toNat

/-! The data phase. -/

/-- The packets of a data phase of the first `n` bytes of `d`: `⌈n / 64⌉` data packets, all of 64 bytes except the last,
then one ZLP if 64 divides `n` (41_control_sequencer.md R159). -/
def dataPackets (d : List Byte) (n : Nat) : List (List Byte) :=
  (List.range ((n + 63) / 64)).map (fun k => slice d (64 * k) (min 64 (n - 64 * k))) ++
    (if n % 64 = 0 then [[]] else [])

/-- The schedule in which the host takes `k` packets and the block handles each completion. -/
def takePackets : Nat → List Action
  | 0 => []
  | k + 1 => .hostIn0 :: .event 0x20 :: takePackets k

/-! The pipeline. -/

/-- The samples of the first `k` groups of a packet in the order they are stored: left, right, left, right, …
(45_iso_receive.md R303). -/
def samples (d : List Byte) : Nat → List Sample
  | 0 => []
  | k + 1 => samples d k ++ [leftSample d k, rightSample d k]

/-- The sample buffer `b` of the audio state. -/
def Audio.buffer (a : Audio) : Buffer → List Sample
  | .A => a.bufA
  | .B => a.bufB

/-- The buffer that is not `b`. -/
def Buffer.other : Buffer → Buffer
  | .A => .B
  | .B => .A

/-! The choice a step takes. -/

/-- The step the next agent takes in this state, if any (Machine/FrontEnd.lean). -/
def chosen (s : State) : Option Action := (nextAction s).1

/-- The setup packet of the entry at the head of the receive-status queue, if that is a setup entry. -/
def headSetup (s : State) : Option SetupPacket :=
  match s.ev.rxq with
  | [] => none
  | e :: _ => if e.kind = .setupRx then some (parsePacket e.data) else none

/-- The state with the head entry of the receive-status queue removed (46_event_dispatch.md R332). -/
def State.popped (s : State) : State := { s with ev := { s.ev with rxq := s.ev.rxq.tail } }

end Sys2Proof.Machine
end

