-- ==== Sys2Proof/Certificates/Slice0/Obligations.lean ====
section
/-! DEFINITION. The statements for the provers, in the order of the spec's files: encodings, steps, requests, receive-status
rows, events, environment, then the rules about the whole machine. -/

open Sys2Proof Sys2Proof.Machine

/-! Encodings. -/

/-- 30_encoding.md R110, R117, R119, R120 and the rows of the opcode table: under every legal parameter set the decoder
gives back every well-formed instruction from its bytes. Well-formed means the table's masks and constraints, the decoder
follows the prose of R117. Rests on the spec's own decisions D4, D5, D6, D7, D16, D17, D18, D27, D45 of
92_eei_decisions.md, and log entries 8, 12 and 14 of the model. -/
def Obligations.DecodeOfEncodeIsTheInstruction : Prop :=
  ∀ P : Params, P.Wf → ∀ i : Instr, i.wf P = true → decode P i.format (encode i) = .ok i

/-- 30_encoding.md R117: the decode of setup packets is total, and the mnemonic it gives is the only one whose row the
packet meets. Rests on the spec's own decisions D4, D5, D6, D7, D16, D17, D18 of 92_eei_decisions.md, and log entry 12 of
the model. -/
def Obligations.ExactlyOneRequestPerSetupPacket : Prop :=
  ∀ P : Params, P.Wf → ∀ p : SetupPacket,
    (decodeSetup P p).packet? = some p ∧ (decodeSetup P p).wf P = true ∧
      ∀ i : Instr, i.packet? = some p → i.wf P = true → i = decodeSetup P p

/-- 30_encoding.md R111: the fields of the packet of wire bytes `b[0..7]` and the 64-bit word `W`, in which byte `i`
stands at bits `8i+7..8i`. Rests on the spec's own decision D4 of 92_eei_decisions.md, and log entry 12 of the model. -/
def Obligations.SetupFieldsAreLittleEndian : Prop :=
  ∀ b0 b1 b2 b3 b4 b5 b6 b7 : Byte,
    let p := parsePacket [b0, b1, b2, b3, b4, b5, b6, b7]
    p.bmRequestType = b0 ∧ p.bRequest = b1 ∧
    p.wValue.toNat = b2.toNat + 256 * b3.toNat ∧
    p.wIndex.toNat = b4.toNat + 256 * b5.toNat ∧
    p.wLength.toNat = b6.toNat + 256 * b7.toNat ∧
    p.word.toNat = b0.toNat + 2 ^ 8 * b1.toNat + 2 ^ 16 * b2.toNat + 2 ^ 24 * b3.toNat + 2 ^ 32 * b4.toNat +
      2 ^ 40 * b5.toNat + 2 ^ 48 * b6.toNat + 2 ^ 56 * b7.toNat ∧
    p.word.extractLsb' 0 8 = p.bmRequestType ∧ p.word.extractLsb' 8 8 = p.bRequest ∧
    p.word.extractLsb' 16 16 = p.wValue ∧ p.word.extractLsb' 32 16 = p.wIndex ∧ p.word.extractLsb' 48 16 = p.wLength

/-- 30_encoding.md R120, R122 with 46_event_dispatch.md R330: an event word by kind and endpoint, kinds 4 to 15 refused.
Rests on the spec's own decisions D45, D53 of 92_eei_decisions.md, the model's deduction (DEDUCED) that kinds 0 and 1 with
another endpoint and an endpoint that does not exist are refused, and log entries 8 and 20 of the model. -/
def Obligations.EventWordsDecodeByKind : Prop :=
  ∀ (P : Params) (e : BitVec 8),
    decode P .event [e] =
      if e.toNat / 16 = 0 then (if e.toNat % 16 = 0 then .ok .evReset else .error .endpointNotZero)
      else if e.toNat / 16 = 1 then (if e.toNat % 16 = 0 then .ok .evRx else .error .endpointNotZero)
      else if e.toNat / 16 = 2 then
        (if e.toNat % 16 < P.numEp then .ok (.evIn (BitVec.ofNat 4 e.toNat)) else .error .noSuchEndpoint)
      else if e.toNat / 16 = 3 then
        (if e.toNat % 16 < P.numEp then .ok (.evOut (BitVec.ofNat 4 e.toNat)) else .error .noSuchEndpoint)
      else .error .reservedEventKind

/-- 30_encoding.md R119: a receive-status word by its packet status, with its other fields. Rests on the spec's own
decision D27 of 92_eei_decisions.md, and log entry 14 of the model. -/
def Obligations.StatusWordsDecodeByPacketStatus : Prop :=
  ∀ (P : Params) (w : BitVec 32),
    let st : RxStatus :=
      { epnum := BitVec.ofNat 4 w.toNat, bcnt := BitVec.ofNat 11 (w.toNat / 2 ^ 4)
        dpid := BitVec.ofNat 2 (w.toNat / 2 ^ 15), frmnum := BitVec.ofNat 4 (w.toNat / 2 ^ 21) }
    let status := w.toNat / 2 ^ 17 % 16
    decode P .rxsts (leBytes 4 w.toNat) =
      .ok (if status = 2 then .rxOutRx st
        else if status = 3 then .rxOutDone st
        else if status = 4 then .rxSetupDone st
        else if status = 6 then .rxSetupRx st
        else .rxOther (BitVec.ofNat 4 status) st)

/-- 95_test_vectors.md 2.1 and 2.9: words written out from the formats decode to the instructions they stand for (V-C1,
V-C11, V-C13, V-C22, V-C30, EV_RESET, EV_OUT 1, the SETUP_RX word of 8 bytes, the OUT_RX word of endpoint 1 and 196
bytes), with the vectors' example IDs. Rests on the spec's own decisions D4, D5, D6, D16, D17, D27, D45 of
92_eei_decisions.md, and log entries 12 and 14 of the model. -/
def Obligations.WrittenOutWordsDecode : Prop :=
  ∀ P : Params, P.clockSourceId = 0x10 → P.clockSelectorId = 0x11 → 2 ≤ P.numEp →
    decode P .setup [0x80, 0x06, 0x00, 0x01, 0x00, 0x00, 0x40, 0x00] =
      .ok (.getDescriptorDevice { bmRequestType := 0x80, bRequest := 0x06, wValue := 0x0100, wIndex := 0, wLength := 0x0040 }) ∧
    decode P .setup [0x00, 0x05, 0x05, 0x00, 0x00, 0x00, 0x00, 0x00] =
      .ok (.setAddress { bmRequestType := 0, bRequest := 0x05, wValue := 5, wIndex := 0, wLength := 0 }) ∧
    decode P .setup [0xA1, 0x01, 0x00, 0x01, 0x00, 0x10, 0x04, 0x00] =
      .ok (.uac2FreqGetCur { bmRequestType := 0xA1, bRequest := 0x01, wValue := 0x0100, wIndex := 0x1000, wLength := 4 }) ∧
    decode P .setup [0x21, 0x01, 0x00, 0x01, 0x00, 0x11, 0x01, 0x00] =
      .ok (.uac2CxSetCur { bmRequestType := 0x21, bRequest := 0x01, wValue := 0x0100, wIndex := 0x1100, wLength := 1 }) ∧
    decode P .setup [0xC0, 0x01, 0x00, 0x00, 0x00, 0x00, 0x04, 0x00] =
      .ok (.vendorKeepalive { bmRequestType := 0xC0, bRequest := 0x01, wValue := 0, wIndex := 0, wLength := 4 }) ∧
    decode P .event [0x00] = .ok .evReset ∧
    decode P .event [0x31] = .ok (.evOut 1) ∧
    decode P .rxsts [0x80, 0x00, 0x0C, 0x00] = .ok (.rxSetupRx { epnum := 0, bcnt := 8, dpid := 0, frmnum := 0 }) ∧
    decode P .rxsts [0x41, 0x0C, 0x04, 0x00] = .ok (.rxOutRx { epnum := 1, bcnt := 196, dpid := 0, frmnum := 0 })

/-! Steps. -/

/-- 46_event_dispatch.md R330, 60_exceptions.md R370: when the schedule's next choice is an event word that decodes, the
step is the meaning of that event in the state without that choice. Rests on the spec's own decisions D2, D3, D44 of
92_eei_decisions.md, and log entry 2 of the model. -/
def Obligations.StepRunsTheDecodedEvent : Prop :=
  ∀ (s : State) (e : BitVec 8) (rest : List Action) (i : Instr),
    s.fault = none → s.schedule = .event e :: rest → decode Config.params .event [e] = .ok i →
      step s = exec i { s with schedule := rest }

/-- 41_control_sequencer.md R151, 42_standard_requests.md R190, 46_event_dispatch.md R332 and R333: when the event taken
is RxLevelReady and the head entry is a setup entry of 8 bytes, the step is the meaning of the request those bytes decode
to, in the state without that choice and without that entry. Rests on the spec's own decisions D2, D3 of
92_eei_decisions.md, and log entry 2 of the model. -/
def Obligations.StepRunsTheDecodedRequest : Prop :=
  ∀ (s : State) (rest : List Action) (e : RxEntry) (q : List RxEntry) (i : Instr),
    s.fault = none → s.schedule = .event 0x10 :: rest → s.ev.rxq = e :: q → e.kind = .setupRx → e.bcnt = 8 →
    decode Config.params .setup e.data = .ok i →
      step s = exec i { s with schedule := rest, ev := { s.ev with rxq := q } }

/-- 46_event_dispatch.md R332: the RX handler on an entry is the receive-status row of the entry's kind; a setup row's
byte count is the entry's. Rests on log entry 6 of the model. -/
def Obligations.RxEventRunsTheEntrysRow : Prop :=
  ∀ (s : State) (e : RxEntry) (q : List RxEntry) (st : RxStatus) (c : BitVec 4), s.ev.rxq = e :: q →
    (e.kind = .outRx → exec .evRx s = exec (.rxOutRx st) s) ∧
    (e.kind = .outDone → exec .evRx s = exec (.rxOutDone st) s) ∧
    (e.kind = .setupDone → exec .evRx s = exec (.rxSetupDone st) s) ∧
    (e.kind = .other c → exec .evRx s = exec (.rxOther c st) s) ∧
    (e.kind = .setupRx → st.bcnt.toNat = e.bcnt → exec .evRx s = exec (.rxSetupRx st) s)

/-- 60_exceptions.md R361: in a state with a fault no step of any agent is taken, and no step clears a fault. Rests on the
spec's own decision D48 of 92_eei_decisions.md, and log entry 11 of the model. -/
def Obligations.FaultStopsEveryAgent : Prop :=
  (∀ (s : State) (f : Fault), s.fault = some f → step s = .fault f) ∧
  (∀ s t : State, step s = .next t → s.fault = none)

/-- Log entry 3, the model's choice for the free schedule of 46_event_dispatch.md R330: past the choices already made, a
drawn choice an agent can make is taken as a scheduled one is, and one no agent can make is no step. It holds for every
value of the drawn choice. Rests on the spec's own decisions D3, D36 of 92_eei_decisions.md, and log entry 3 of the
model. -/
def Obligations.DrawnChoiceIsTakenLikeAScheduledOne : Prop :=
  ∀ s : State, s.fault = none → s.schedule = [] →
    step s =
      if producible (Config.drawnAction s.drawn) = true then
        step { s with schedule := [Config.drawnAction s.drawn], drawn := s.drawn + 1 }
      else .next { s with drawn := s.drawn + 1 }

/-- Log entry 4, the model's choice of how a word of the opcode table is placed: the next step runs the request that a
64-bit setup word decodes to, in the state as it was. Rests on log entry 4 of the model. -/
def Obligations.PlacedSetupWordRunsNext : Prop :=
  ∀ (s : State) (p : SetupPacket),
    step (s.withFetchWord 64 p.word.toNat) = exec (decodeSetup Config.params p) { s with fault := none }

/-! Requests. -/

/-- 42_standard_requests.md R191: a standard request 0x00 is GET_STATUS, and it replies two zero bytes whatever its
operands and length are. Rests on the spec's own decisions D6, D7, D15 of 92_eei_decisions.md, and log entries 9 and 12 of
the model. -/
def Obligations.GetStatusRepliesTwoZeroBytes : Prop :=
  (∀ p : SetupPacket, p.type = 0 → p.bRequest = 0x00 → decodeSetup Config.params p = .getStatus p) ∧
  ∀ (p : SetupPacket) (s : State), exec (.getStatus p) s = .next (s.afterData p [0x00, 0x00] 2)

/-- 42_standard_requests.md R192: SET_ADDRESS writes the address at once and ACKs, or stalls and leaves it. Rests on the
spec's own decisions D6, D7, D32 of 92_eei_decisions.md, and log entry 12 of the model. -/
def Obligations.SetAddressWritesAtOnceOrStalls : Prop :=
  (∀ p : SetupPacket, p.type = 0 → p.bRequest = 0x05 → decodeSetup Config.params p = .setAddress p) ∧
  ∀ (p : SetupPacket) (s : State),
    (p.wValue.toNat ≤ 0x7F ∧ p.wIndex = 0 ∧ p.wLength = 0 →
      exec (.setAddress p) s =
        .next ({ s with dev := { s.dev with devAddr := BitVec.ofNat 7 p.wValue.toNat } }.afterAck p)) ∧
    (0x7F < p.wValue.toNat ∨ p.wIndex ≠ 0 ∨ p.wLength ≠ 0 → exec (.setAddress p) s = .next (s.afterStall p))

/-- 42_standard_requests.md R194: GET_CONFIGURATION replies the configuration byte. Rests on the spec's own decisions D6,
D7, D15 of 92_eei_decisions.md, and log entries 9 and 12 of the model. -/
def Obligations.GetConfigurationRepliesTheConfiguration : Prop :=
  (∀ p : SetupPacket, p.type = 0 → p.bRequest = 0x08 → decodeSetup Config.params p = .getConfiguration p) ∧
  ∀ (p : SetupPacket) (s : State), exec (.getConfiguration p) s = .next (s.afterData p [s.dev.config] 1)

/-- 42_standard_requests.md R195: SET_CONFIGURATION accepts 0 and 1 only; 1 sets the isochronous enable bit, 0 leaves it.
Rests on the spec's own decisions D6, D7, D8, D9 of 92_eei_decisions.md, and log entry 12 of the model. -/
def Obligations.SetConfigurationAcceptsZeroAndOne : Prop :=
  (∀ p : SetupPacket, p.type = 0 → p.bRequest = 0x09 → decodeSetup Config.params p = .setConfiguration p) ∧
  ∀ (p : SetupPacket) (s : State),
    (p.wValue = 0 → exec (.setConfiguration p) s = .next ({ s with dev := { s.dev with config := 0 } }.afterAck p)) ∧
    (p.wValue = 1 → exec (.setConfiguration p) s =
      .next ({ s with dev := { s.dev with config := 1 }, iso := { s.iso with active := true } }.afterAck p)) ∧
    (1 < p.wValue.toNat → exec (.setConfiguration p) s = .next (s.afterStall p))

/-- 42_standard_requests.md R196 with 45_iso_receive.md R307: SET_INTERFACE by interface and alternate. Rests on the
spec's own decisions D6, D7, D8, D9, D55 of 92_eei_decisions.md, and log entry 12 of the model. -/
def Obligations.SetInterfaceEnablesAndArms : Prop :=
  (∀ p : SetupPacket, p.type = 0 → p.bRequest = 0x0B → decodeSetup Config.params p = .setInterface p) ∧
  ∀ (p : SetupPacket) (s : State),
    (p.wIndex = 0 ∧ p.wValue = 0 → exec (.setInterface p) s = .next (s.afterAck p)) ∧
    (p.wIndex = 1 ∧ p.wValue = 0 → exec (.setInterface p) s =
      .next ({ s with dev := { s.dev with asAlt := 0 }, iso := { s.iso with active := false, armed := false } }.afterAck p)) ∧
    (p.wIndex = 1 ∧ p.wValue = 1 → exec (.setInterface p) s =
      .next ({ s with
        dev := { s.dev with asAlt := 1 }
        iso := { s.iso with active := true, mps := 196, rem := 196, armed := true } }.afterAck p)) ∧
    (1 < p.wIndex.toNat ∨ 1 < p.wValue.toNat ∨ (p.wIndex = 0 ∧ p.wValue = 1) →
      exec (.setInterface p) s = .next (s.afterStall p))

/-- 42_standard_requests.md R199, R200: every vendor code other than the keep-alive, and the reserved type, stalls. -/
def Obligations.UnknownVendorCodesAndReservedTypeStall : Prop :=
  (∀ p : SetupPacket, p.type = 2 → p.bRequest ≠ 0x01 → decodeSetup Config.params p = .vendorUnsupported p) ∧
  (∀ p : SetupPacket, p.type = 3 → decodeSetup Config.params p = .reservedType p) ∧
  ∀ (p : SetupPacket) (s : State),
    exec (.vendorUnsupported p) s = .next (s.afterStall p) ∧
    exec (.reservedType p) s = .next (s.afterStall p)

/-- 42_standard_requests.md section 2 (STD_UNSUPPORTED): every unimplemented standard code stalls. Rests on the spec's own
decisions D6, D7, D18 of 92_eei_decisions.md, and log entry 12 of the model. -/
def Obligations.UnknownStandardCodesStall : Prop :=
  (∀ p : SetupPacket, p.type = 0 → p.bRequest ∉ [0x00, 0x05, 0x06, 0x08, 0x09, 0x0B] →
    decodeSetup Config.params p = .stdUnsupported p) ∧
  ∀ (p : SetupPacket) (s : State), exec (.stdUnsupported p) s = .next (s.afterStall p)

/-- 42_standard_requests.md R198: the vendor keep-alive replies the four bytes of the token. Rests on the spec's own
decisions D7, D15, D21 of 92_eei_decisions.md, and log entries 9 and 12 of the model. -/
def Obligations.KeepaliveRepliesTheToken : Prop :=
  (∀ p : SetupPacket, p.type = 2 → p.bRequest = 0x01 → decodeSetup Config.params p = .vendorKeepalive p) ∧
  ∀ (p : SetupPacket) (s : State),
    exec (.vendorKeepalive p) s = .next (s.afterData p Config.params.keepaliveToken 4)

/-- 43_descriptor_server.md R235, R236, R237, R239: the device, configuration and qualifier requests send the first
`min(wLength, L)` bytes of their table, whatever the index and `wIndex` are. Rests on the spec's own decisions D6, D37 of
92_eei_decisions.md, and log entry 12 of the model. -/
def Obligations.FixedDescriptorsAreServed : Prop :=
  (∀ p : SetupPacket, p.type = 0 → p.bRequest = 0x06 →
    (p.dtype = 1 → decodeSetup Config.params p = .getDescriptorDevice p) ∧
    (p.dtype = 2 → decodeSetup Config.params p = .getDescriptorConfiguration p) ∧
    (p.dtype = 6 → decodeSetup Config.params p = .getDescriptorQualifier p)) ∧
  ∀ (p : SetupPacket) (s : State),
    exec (.getDescriptorDevice p) s = .next (s.afterServe p Config.params.devDesc 18) ∧
    exec (.getDescriptorConfiguration p) s = .next (s.afterServe p Config.params.cfgDesc Config.params.cfgDesc.length) ∧
    exec (.getDescriptorQualifier p) s = .next (s.afterServe p Config.params.qualDesc Config.params.qualDesc.length)

/-- 43_descriptor_server.md section 3 (GET_DESCRIPTOR_STRING) with R235: string indexes 0, 1, 2 serve their table cut to
its own first byte, whatever the language is. Rests on the spec's own decisions D6, D37 of 92_eei_decisions.md, and log
entry 12 of the model. -/
def Obligations.StringDescriptorsAreServed : Prop :=
  (∀ p : SetupPacket, p.type = 0 → p.bRequest = 0x06 → p.dtype = 3 → p.dindex.toNat ≤ 2 →
    decodeSetup Config.params p = .getDescriptorString p) ∧
  ∀ (p : SetupPacket) (s : State),
    (p.dindex = 0 → exec (.getDescriptorString p) s =
      .next (s.afterServe p Config.params.strDesc.language (byteAt Config.params.strDesc.language 0).toNat)) ∧
    (p.dindex = 1 → exec (.getDescriptorString p) s =
      .next (s.afterServe p Config.params.strDesc.manufacturer (byteAt Config.params.strDesc.manufacturer 0).toNat)) ∧
    (p.dindex = 2 → exec (.getDescriptorString p) s =
      .next (s.afterServe p Config.params.strDesc.product (byteAt Config.params.strDesc.product 0).toNat))

/-- 43_descriptor_server.md R240: a string index past 2 and every descriptor type other than 1, 2, 3 and 6 stalls. Rests
on the spec's own decisions D6, D18 of 92_eei_decisions.md, and log entry 12 of the model. -/
def Obligations.UnknownDescriptorsStall : Prop :=
  (∀ p : SetupPacket, p.type = 0 → p.bRequest = 0x06 →
    (p.dtype = 3 → 2 < p.dindex.toNat → decodeSetup Config.params p = .getDescriptorOther p) ∧
    (p.dtype ∉ [1, 2, 3, 6] → decodeSetup Config.params p = .getDescriptorOther p)) ∧
  ∀ (p : SetupPacket) (s : State), exec (.getDescriptorOther p) s = .next (s.afterStall p)

/-- 44_uac2_requests.md R260, R275, R276: a class request to an endpoint, or to the streaming interface, is ACKed whatever
else it says. Rests on the spec's own decisions D5, D16, D40 of 92_eei_decisions.md, and log entry 12 of the model. -/
def Obligations.StreamingAndEndpointRequestsAreAcked : Prop :=
  (∀ p : SetupPacket, p.type = 1 → p.recipient = 2 → decodeSetup Config.params p = .uac2EpAny p) ∧
  (∀ p : SetupPacket, p.type = 1 → p.recipient = 1 → p.ifn = 1 → decodeSetup Config.params p = .uac2AsAny p) ∧
  ∀ (p : SetupPacket) (s : State),
    exec (.uac2EpAny p) s = .next (s.afterAck p) ∧ exec (.uac2AsAny p) s = .next (s.afterAck p)

/-- 44_uac2_requests.md R264, R271 with R55 of 10_state.md: SET_CUR of the sample frequency and of the clock selector is
ACKed and changes nothing but the sequencer. Rests on the spec's own decisions D5, D6, D16, D17, D40 of
92_eei_decisions.md, and log entry 12 of the model. -/
def Obligations.AcceptedSetCurIsAcked : Prop :=
  (∀ p : SetupPacket, p.type = 1 → p.recipient = 1 → p.ifn = 0 → p.cs = 1 → p.dir = false → p.bRequest = 1 →
    (p.ent = Config.params.clockSourceId → decodeSetup Config.params p = .uac2FreqSetCur p) ∧
    (p.ent = Config.params.clockSelectorId → decodeSetup Config.params p = .uac2CxSetCur p)) ∧
  ∀ (p : SetupPacket) (s : State),
    exec (.uac2FreqSetCur p) s = .next (s.afterAck p) ∧ exec (.uac2CxSetCur p) s = .next (s.afterAck p)

/-- 44_uac2_requests.md R260, R261, R267, R269, R273, R274: a class request stalls for another recipient, another entity,
an unknown selector of a handled entity, and as SET_CUR of the read-only clock-valid control. Rests on the spec's own
decisions D5, D6, D16, D17 of 92_eei_decisions.md, and log entry 12 of the model. -/
def Obligations.UnknownRecipientsEntitiesAndSelectorsStall : Prop :=
  (∀ p : SetupPacket, p.type = 1 →
    (p.recipient ≠ 1 → p.recipient ≠ 2 → decodeSetup Config.params p = .uac2BadRecipient p) ∧
    (p.recipient = 1 → p.ifn = 0 →
      (p.ent ≠ Config.params.clockSourceId → p.ent ≠ Config.params.clockSelectorId →
        decodeSetup Config.params p = .uac2AcBadEntity p) ∧
      (p.ent = Config.params.clockSourceId →
        (p.cs ≠ 1 → p.cs ≠ 2 → decodeSetup Config.params p = .uac2CsBadSelector p) ∧
        (p.cs = 2 → p.dir = false → p.bRequest = 1 → decodeSetup Config.params p = .uac2ValidSetCur p)) ∧
      (p.ent = Config.params.clockSelectorId → p.cs ≠ 1 → decodeSetup Config.params p = .uac2CxBadSelector p))) ∧
  ∀ (p : SetupPacket) (s : State),
    exec (.uac2BadRecipient p) s = .next (s.afterStall p) ∧ exec (.uac2ValidSetCur p) s = .next (s.afterStall p) ∧
    exec (.uac2CsBadSelector p) s = .next (s.afterStall p) ∧ exec (.uac2CxBadSelector p) s = .next (s.afterStall p) ∧
    exec (.uac2AcBadEntity p) s = .next (s.afterStall p)

/-- 44_uac2_requests.md sections 2 to 5 (UAC2_BAD_INTERFACE, UAC2_FREQ_OTHER, UAC2_VALID_OTHER, UAC2_CX_OTHER): the class
requests the source does not name stall. Rests on the spec's own decisions D5, D6, D16, D17, D18 of 92_eei_decisions.md,
and log entry 12 of the model. -/
def Obligations.UnnamedClassRequestsStall : Prop :=
  (∀ p : SetupPacket, p.type = 1 → p.recipient = 1 →
    (p.ifn ≠ 0 → p.ifn ≠ 1 → decodeSetup Config.params p = .uac2BadInterface p) ∧
    (p.ifn = 0 →
      (p.ent = Config.params.clockSourceId →
        (p.cs = 1 → (p.dir, p.bRequest) ∉ [(true, 0x01), (true, 0x02), (false, 0x01)] →
          decodeSetup Config.params p = .uac2FreqOther p) ∧
        (p.cs = 2 → (p.dir, p.bRequest) ∉ [(true, 0x01), (false, 0x01)] →
          decodeSetup Config.params p = .uac2ValidOther p)) ∧
      (p.ent = Config.params.clockSelectorId → p.cs = 1 → (p.dir, p.bRequest) ∉ [(true, 0x01), (false, 0x01)] →
        decodeSetup Config.params p = .uac2CxOther p))) ∧
  ∀ (p : SetupPacket) (s : State),
    exec (.uac2BadInterface p) s = .next (s.afterStall p) ∧ exec (.uac2FreqOther p) s = .next (s.afterStall p) ∧
    exec (.uac2ValidOther p) s = .next (s.afterStall p) ∧ exec (.uac2CxOther p) s = .next (s.afterStall p)

/-- 44_uac2_requests.md R262, R270: GET_CUR of the sample frequency replies the sample rate in 4 little-endian bytes, and
GET_CUR of the clock selector the clock-source ID. Rests on the spec's own decisions D5, D6, D15, D16, D17 of
92_eei_decisions.md, and log entries 9 and 12 of the model. -/
def Obligations.CurrentRateAndSourceAreReplied : Prop :=
  (∀ p : SetupPacket, p.type = 1 → p.recipient = 1 → p.ifn = 0 → p.dir = true → p.cs = 1 → p.bRequest = 1 →
    (p.ent = Config.params.clockSourceId → decodeSetup Config.params p = .uac2FreqGetCur p) ∧
    (p.ent = Config.params.clockSelectorId → decodeSetup Config.params p = .uac2CxGetCur p)) ∧
  ∀ (p : SetupPacket) (s : State),
    exec (.uac2FreqGetCur p) s = .next (s.afterData p
      [s.clk.sampleRate.extractLsb' 0 8, s.clk.sampleRate.extractLsb' 8 8, s.clk.sampleRate.extractLsb' 16 8,
        s.clk.sampleRate.extractLsb' 24 8] 4) ∧
    exec (.uac2CxGetCur p) s = .next (s.afterData p [Config.params.clockSourceId] 1)

/-- 44_uac2_requests.md sections 3 and 4 (UAC2_FREQ_GET_RANGE, UAC2_VALID_GET_CUR): the 14-byte range with one subrange
48000 to 48000 of resolution 1, and the clock-valid flag as one byte. Rests on the spec's own decisions D5, D6, D15, D16,
D17, D19, D39 of 92_eei_decisions.md, and log entries 9 and 12 of the model. -/
def Obligations.RangeAndValidityAreReplied : Prop :=
  (∀ p : SetupPacket, p.type = 1 → p.recipient = 1 → p.ifn = 0 → p.dir = true → p.ent = Config.params.clockSourceId →
    (p.cs = 1 → p.bRequest = 2 → decodeSetup Config.params p = .uac2FreqGetRange p) ∧
    (p.cs = 2 → p.bRequest = 1 → decodeSetup Config.params p = .uac2ValidGetCur p)) ∧
  ∀ (p : SetupPacket) (s : State),
    exec (.uac2FreqGetRange p) s = .next (s.afterData p
      [0x01, 0x00, 0x80, 0xBB, 0x00, 0x00, 0x80, 0xBB, 0x00, 0x00, 0x01, 0x00, 0x00, 0x00] 14) ∧
    exec (.uac2ValidGetCur p) s = .next (s.afterData p [if s.clk.valid = true then 0x01 else 0x00] 1)

/-- 41_control_sequencer.md R162 with R151, R152, R154 and R157: every request records its packet and ends in exactly one
stall, zero-length send or data send, each given with all it writes of the sequencer and the EP0 registers. Beyond these
only SET_ADDRESS, SET_CONFIGURATION and SET_INTERFACE write device or endpoint state (R192, R195, R196 of
42_standard_requests.md), and no other state changes. Rests on the spec's own decision D9 of 92_eei_decisions.md, R162 of
41_control_sequencer.md, which the spec marks as derived, and log entry 16 of the model. -/
def Obligations.EveryRequestSendsOnceOrStalls : Prop :=
  ∀ (i : Instr) (p : SetupPacket) (s : State), i.packet? = some p →
    ∃ t, exec i s = .next t ∧ t.ctl.setup = p ∧
      t.ep0.outArmed = s.ep0.outArmed ∧ t.ep0.irqUnmasked = s.ep0.irqUnmasked ∧
      t.ctl.pendingAddress = s.ctl.pendingAddress ∧ t.ctl.addressPending = s.ctl.addressPending ∧
      t.iso.rxpkt = s.iso.rxpkt ∧ t.ev = s.ev ∧ t.clk = s.clk ∧ t.aud = s.aud ∧ t.fault = s.fault ∧
      t.hostLog = s.hostLog ∧ t.env = s.env ∧ t.schedule = s.schedule ∧ t.drawn = s.drawn ∧
      (t.dev.devAddr = s.dev.devAddr ∨ i = .setAddress p) ∧
      (t.dev.config = s.dev.config ∨ i = .setConfiguration p) ∧
      (t.dev.asAlt = s.dev.asAlt ∨ i = .setInterface p) ∧
      (t.iso = s.iso ∨ i = .setInterface p ∨ (i = .setConfiguration p ∧ t.iso = { s.iso with active := true })) ∧
      ((t.ctl.phase = .idle ∧ t.ctl.totalLen = p.wLength.toNat ∧ t.ctl.sent = 0 ∧ t.ctl.buf = s.ctl.buf ∧
          t.ctl.zlpPending = s.ctl.zlpPending ∧
          t.ep0.inStall = true ∧ t.ep0.outStall = true ∧ t.ep0.tx = s.ep0.tx ∧ t.dev = s.dev ∧ t.iso = s.iso) ∨
        (t.ctl.phase = .statusOut ∧ t.ctl.totalLen = p.wLength.toNat ∧ t.ctl.sent = 0 ∧ t.ctl.buf = s.ctl.buf ∧
          t.ctl.zlpPending = s.ctl.zlpPending ∧
          t.ep0.inStall = s.ep0.inStall ∧ t.ep0.outStall = s.ep0.outStall ∧ t.ep0.tx = some []) ∨
        (∃ d n, t.ctl.phase = .dataIn ∧ t.ctl.buf = some d ∧ t.ctl.totalLen = n ∧ 0 < n ∧ n ≤ d.length ∧
          t.ctl.sent = min n 64 ∧ t.ctl.zlpPending = decide (n = 64) ∧
          t.ep0.inStall = s.ep0.inStall ∧ t.ep0.outStall = s.ep0.outStall ∧ t.ep0.tx = some (d.take (min n 64)) ∧
          t.dev = s.dev ∧ t.iso = s.iso))

/-- 41_control_sequencer.md R151: the SETUP stage. The 8 bytes of a setup entry run the handler of the request they decode to.
In every prior phase it records the packet, and the lengths it records, `total_len = wLength` and `sent = 0`, stand unless
the handler starts a data phase; `buf` and `zlp_pending` are not written here. The outcome does not depend on the phase, the
lengths or the packet of the transaction it interrupts ("a fresh SETUP always overrides any stuck phase", R164). -/
def Obligations.FreshSetupOverridesAnyPhase : Prop :=
  (∀ (s : State) (e : RxEntry) (q : List RxEntry),
    s.ev.rxq = e :: q → e.kind = .setupRx → e.bcnt = 8 → e.data.length = 8 →
      exec .evRx s = exec (decodeSetup Config.params (parsePacket e.data)) s.popped) ∧
  ∀ (i : Instr) (p : SetupPacket) (s : State), i.packet? = some p →
    (∀ (q : SetupPacket) (ph : Phase) (n m : Nat),
      exec i { s with ctl := { s.ctl with setup := q, phase := ph, totalLen := n, sent := m } } = exec i s) ∧
    ∃ t, exec i s = .next t ∧ t.ctl.setup = p ∧
      (t.ctl.phase ≠ .dataIn →
        t.ctl.totalLen = p.wLength.toNat ∧ t.ctl.sent = 0 ∧ t.ctl.buf = s.ctl.buf ∧ t.ctl.zlpPending = s.ctl.zlpPending)

/-! Receive-status rows. -/

/-- 46_event_dispatch.md R334, R335, R336, R337: these entries are popped; an OUT-transfer-complete entry re-arms EP0 OUT
whatever its endpoint is; nothing else changes. Rests on the spec's own decisions D28, D29, D30 of 92_eei_decisions.md,
and log entry 6 of the model. -/
def Obligations.ReceiveStatusRowsPopTheirEntry : Prop :=
  ∀ (s : State) (st : RxStatus) (c : BitVec 4),
    exec (.rxOutRx st) s = .next s.popped ∧
    exec (.rxOutDone st) s = .next { s.popped with ep0 := { s.ep0 with outArmed := true } } ∧
    exec (.rxSetupDone st) s = .next s.popped ∧
    exec (.rxOther c st) s = .next s.popped

/-- 46_event_dispatch.md R333, 60_exceptions.md R361: a setup entry of 8 bytes runs the request it decodes to, which
answers a next state; any other length records the fault BadSetupLength and writes nothing else beyond the pop. Rests on
the spec's own decision D48 of 92_eei_decisions.md, and log entries 6 and 11 of the model. -/
def Obligations.SetupEntryRunsItsRequestOrFaults : Prop :=
  ∀ (s : State) (e : RxEntry) (q : List RxEntry) (st : RxStatus), s.ev.rxq = e :: q →
    (st.bcnt = 8 ∧ e.data.length = 8 →
      exec (.rxSetupRx st) s = exec (decodeSetup Config.params (parsePacket e.data)) s.popped ∧
      ∃ t, exec (.rxSetupRx st) s = .next t ∧ t.ctl.setup = parsePacket e.data ∧ t.fault = s.fault) ∧
    (st.bcnt ≠ 8 ∨ e.data.length ≠ 8 →
      exec (.rxSetupRx st) s = .next { s.popped with fault := some .badSetupLength })

/-! Events. -/

/-- 46_event_dispatch.md R331: the bus-reset handler writes these eight fields and no others, in every phase. Rests on the
spec's own decisions D12, D13 of 92_eei_decisions.md. -/
def Obligations.BusResetReturnsToIdle : Prop :=
  ∀ s : State, s.ev.rstPending = true →
    exec .evReset s = .next { s with
      ev := { s.ev with rstPending := false }
      ep0 := { inStall := false, outStall := false, outArmed := true, tx := none, irqUnmasked := true }
      dev := { s.dev with devAddr := 0 }
      ctl := { s.ctl with phase := .idle } }

/-- 46_event_dispatch.md R330, R340: an event that is not pending, or is masked, is not dispatched. Rests on the spec's
own decisions D3, D38 of 92_eei_decisions.md, and log entry 7 of the model. -/
def Obligations.MaskedEventsAreNotDispatched : Prop :=
  ∀ s : State,
    (s.ev.rstPending = false → exec .evReset s = .next s) ∧
    (s.ev.rxq = [] → exec .evRx s = .next s) ∧
    ∀ ep : BitVec 4,
      (s.ep0.irqUnmasked = false ∨ flagAt s.ev.iepXfrc ep.toNat = false → exec (.evIn ep) s = .next s) ∧
      (s.ep0.irqUnmasked = false ∨ (flagAt s.ev.oepXfrc ep.toNat = false ∧ flagAt s.ev.oepStup ep.toNat = false) →
        exec (.evOut ep) s = .next s)

/-- 46_event_dispatch.md R332: EV_RX pops exactly the head entry, whatever its kind is, answers a next state, and runs the
arm of that kind: a setup entry of 8 bytes runs the request it decodes to, one of another length records the fault
BadSetupLength, OUT_DONE re-arms EP0 OUT, every other entry does nothing more (R333 to R337). Rests on the spec's own
decisions D28, D29, D30, D48 of 92_eei_decisions.md, and log entry 11 of the model. -/
def Obligations.RxEventPopsTheHeadEntry : Prop :=
  ∀ (s : State) (e : RxEntry) (q : List RxEntry), s.ev.rxq = e :: q →
    ∃ t, exec .evRx s = .next t ∧ t.ev = { s.ev with rxq := q } ∧
      (e.kind = .setupRx → e.bcnt = 8 → e.data.length = 8 →
        exec .evRx s = exec (decodeSetup Config.params (parsePacket e.data)) s.popped ∧
        t.ctl.setup = parsePacket e.data ∧ t.fault = s.fault) ∧
      (e.kind = .setupRx → e.bcnt ≠ 8 ∨ e.data.length ≠ 8 → t = { s.popped with fault := some .badSetupLength }) ∧
      (e.kind = .outDone → t = { s.popped with ep0 := { s.ep0 with outArmed := true } }) ∧
      (e.kind ≠ .setupRx → e.kind ≠ .outDone → t = s.popped)

/-- 41_control_sequencer.md R155, re-invoked by the IN completion of EP0 in the data phase: the flag is cleared, and the
step sends the next packet of at most 64 bytes, or the pending ZLP, or ends the data phase and arms EP0 OUT. Rests on the
model's choice (DESIGN CHOICE) where the buffer ends before the packet or `sent` is above `totalLen`, which R69 of
10_state.md rules out, and log entry 5 of the model. -/
def Obligations.InEventContinuesTheDataPhase : Prop :=
  ∀ s : State, s.ep0.irqUnmasked = true → flagAt s.ev.iepXfrc 0 = true → s.ctl.phase = .dataIn →
    let ev' := { s.ev with iepXfrc := s.ev.iepXfrc.set 0 false }
    (∀ b, s.ctl.buf = some b → s.ctl.sent < s.ctl.totalLen →
      let k := min (s.ctl.totalLen - s.ctl.sent) 64
      exec (.evIn 0) s = .next { s with
        ev := ev'
        ep0 := { s.ep0 with tx := some ((b.drop s.ctl.sent).take k) }
        ctl := { s.ctl with
          sent := s.ctl.sent + k
          zlpPending := if k = 64 ∧ s.ctl.sent + k = s.ctl.totalLen then true else s.ctl.zlpPending } }) ∧
    (s.ctl.totalLen ≤ s.ctl.sent → s.ctl.zlpPending = true →
      exec (.evIn 0) s = .next { s with
        ev := ev', ep0 := { s.ep0 with tx := some [] }, ctl := { s.ctl with zlpPending := false } }) ∧
    (s.ctl.totalLen ≤ s.ctl.sent → s.ctl.zlpPending = false →
      exec (.evIn 0) s = .next { s with
        ev := ev', ep0 := { s.ep0 with outArmed := true }, ctl := { s.ctl with phase := .statusOut } })

/-- 46_event_dispatch.md R338 and R339 with 41_control_sequencer.md R156 and R158: EV_OUT of any endpoint other than a
completed isochronous one clears both flags, and a completion of EP0 in `StatusOut` closes the transaction. EV_IN of
another endpoint, or of EP0 outside the data phase, only clears its flag. Rests on the spec's own decisions D10, D31 of
92_eei_decisions.md. -/
def Obligations.OutEventClosesTheTransaction : Prop :=
  ∀ (s : State) (ep : BitVec 4), s.ep0.irqUnmasked = true →
    (flagAt s.ev.oepXfrc ep.toNat = true ∨ flagAt s.ev.oepStup ep.toNat = true →
      ep ≠ 1 ∨ flagAt s.ev.oepXfrc ep.toNat = false →
      exec (.evOut ep) s = .next { s with
        ev := { s.ev with oepXfrc := s.ev.oepXfrc.set ep.toNat false, oepStup := s.ev.oepStup.set ep.toNat false }
        ctl := { s.ctl with
          phase :=
            if ep = 0 ∧ flagAt s.ev.oepXfrc ep.toNat = true ∧ s.ctl.phase = .statusOut then .idle else s.ctl.phase } }) ∧
    (flagAt s.ev.iepXfrc ep.toNat = true → ep ≠ 0 ∨ s.ctl.phase ≠ .dataIn →
      exec (.evIn ep) s = .next { s with ev := { s.ev with iepXfrc := s.ev.iepXfrc.set ep.toNat false } })

/-- 45_iso_receive.md R300 to R307 and R310 with 46_event_dispatch.md R339: EV_OUT of the isochronous endpoint. With `n =
196 - iso_rem` bytes received it stores the samples of the `n div 4` whole groups at consecutive positions of the one
buffer the toggle does not name as active (where positions repeat, the later sample stays), advances the write index,
records one timestamp, re-arms the endpoint, clears both flags, and changes nothing else. Rests on the spec's own
decisions D22, D23, D24, D25, D26, D55 of 92_eei_decisions.md, and R310 of 45_iso_receive.md, which the spec marks as
derived. -/
def Obligations.PipelineStoresOnePacket : Prop :=
  ∀ s : State, AudioOk Config.params s.aud → s.ep0.irqUnmasked = true → flagAt s.ev.oepXfrc 1 = true →
    s.iso.rem ≤ 196 → 196 - s.iso.rem ≤ s.iso.rxpkt.length →
    let m := 2 * ((196 - s.iso.rem) / 4)
    let size := Config.params.bufSamples
    let tgt := if s.env.toggle = 0 then Buffer.B else Buffer.A
    ∃ a : Audio,
      exec (.evOut 1) s = .next { s with
        ev := { s.ev with oepXfrc := s.ev.oepXfrc.set 1 false, oepStup := s.ev.oepStup.set 1 false }
        iso := { s.iso with rem := 196, armed := true }
        aud := a } ∧
      a.wrIdx = (s.aud.wrIdx + m) % size ∧
      a.ring = s.aud.ring.set s.aud.ringIdx (s.env.clock % 2 ^ Config.params.tsBits) ∧
      a.ringIdx = (s.aud.ringIdx + 1) % Config.params.ringCap ∧
      a.buffer tgt.other = s.aud.buffer tgt.other ∧
      (∀ k, k < m → m ≤ k + size →
        (a.buffer tgt)[(s.aud.wrIdx + k) % size]? = (samples s.iso.rxpkt (m / 2))[k]?) ∧
      (∀ i, (∀ k, k < m → (s.aud.wrIdx + k) % size ≠ i) → (a.buffer tgt)[i]? = (s.aud.buffer tgt)[i]?)

/-- 45_iso_receive.md R300, R301 with 60_exceptions.md R361: in the two states the source gives no meaning to, EV_OUT of
the isochronous endpoint clears the completion flag, records the fault and writes nothing else. Rests on the spec's own
decisions D26, D48 of 92_eei_decisions.md, and log entry 11 of the model. -/
def Obligations.PipelineFaultsOnImpossibleCounts : Prop :=
  ∀ s : State, s.ep0.irqUnmasked = true → flagAt s.ev.oepXfrc 1 = true →
    (196 < s.iso.rem → exec (.evOut 1) s = .next { s with
      ev := { s.ev with oepXfrc := s.ev.oepXfrc.set 1 false }, fault := some .isoRemOverflow }) ∧
    (s.iso.rem ≤ 196 → s.iso.rxpkt.length < 196 - s.iso.rem → exec (.evOut 1) s = .next { s with
      ev := { s.ev with oepXfrc := s.ev.oepXfrc.set 1 false }, fault := some .isoShortData })

/-! The environment. -/

/-- 60_exceptions.md R363: HOST_RESET marks the reset as pending and changes no other state; a second one changes nothing
more. Rests on the spec's own decisions D13, D36 of 92_eei_decisions.md, and log entry 2 of the model. -/
def Obligations.HostResetOnlyMarksPending : Prop :=
  ∀ (s : State) (rest : List Action), s.fault = none →
    step { s with schedule := .hostReset :: rest } =
      .next { s with schedule := rest, ev := { s.ev with rstPending := true } } ∧
    (s.ev.rstPending = true → step { s with schedule := .hostReset :: rest } = .next { s with schedule := rest })

/-- 60_exceptions.md R365, R379: HOST_SETUP of 8 bytes clears both stall bits, appends the two entries and raises the
setup-done flag of EP0, in every state of the EP0 registers; the IN slot is not flushed. Of another length it has no step.
Rests on the spec's own decisions D12, D36, D43 of 92_eei_decisions.md, and log entries 2 and 8 of the model. -/
def Obligations.HostSetupIsAlwaysAccepted : Prop :=
  ∀ (s : State) (rest : List Action) (p : List Byte), s.fault = none →
    (p.length = 8 → step { s with schedule := .hostSetup p :: rest } =
      .next { s with
        schedule := rest
        ep0 := { s.ep0 with inStall := false, outStall := false }
        ev := { s.ev with
          rxq := s.ev.rxq ++ [{ kind := .setupRx, ep := 0, bcnt := 8, data := p },
            { kind := .setupDone, ep := 0, bcnt := 0, data := [] }]
          oepStup := s.ev.oepStup.set 0 true } }) ∧
    (p.length ≠ 8 → step { s with schedule := .hostSetup p :: rest } = .refused .setupNotEightBytes)

/-- 60_exceptions.md R366, R379: HOST_OUT0 gets a STALL, a NAK, or is accepted; a stall goes before a NAK. A longer packet
has no step. Rests on the spec's own decisions D36, D43 of 92_eei_decisions.md, and log entries 2 and 8 of the model. -/
def Obligations.HostOutIsStalledNakedOrAccepted : Prop :=
  ∀ (s : State) (rest : List Action) (d : List Byte), s.fault = none →
    (64 < d.length → step { s with schedule := .hostOut0 d :: rest } = .refused .out0TooLong) ∧
    (d.length ≤ 64 → s.ep0.outStall = true → step { s with schedule := .hostOut0 d :: rest } =
      .next { s with schedule := rest, hostLog := s.hostLog ++ [.stallOut] }) ∧
    (d.length ≤ 64 → s.ep0.outStall = false → s.ep0.outArmed = false →
      step { s with schedule := .hostOut0 d :: rest } = .next { s with schedule := rest }) ∧
    (d.length ≤ 64 → s.ep0.outStall = false → s.ep0.outArmed = true →
      step { s with schedule := .hostOut0 d :: rest } =
      .next { s with
        schedule := rest
        ep0 := { s.ep0 with outArmed := false }
        ev := { s.ev with
          rxq := s.ev.rxq ++ [{ kind := .outRx, ep := 0, bcnt := d.length, data := d },
            { kind := .outDone, ep := 0, bcnt := 0, data := [] }]
          oepXfrc := s.ev.oepXfrc.set 0 true } })

/-- 60_exceptions.md R367: HOST_IN0 gets a STALL, a NAK, or the loaded packet, which is then gone from the slot. Rests on
the spec's own decision D36 of 92_eei_decisions.md, and log entry 2 of the model. -/
def Obligations.HostInTakesThePacketOnce : Prop :=
  ∀ (s : State) (rest : List Action), s.fault = none →
    (s.ep0.inStall = true → step { s with schedule := .hostIn0 :: rest } =
      .next { s with schedule := rest, hostLog := s.hostLog ++ [.stallIn] }) ∧
    (s.ep0.inStall = false → s.ep0.tx = none →
      step { s with schedule := .hostIn0 :: rest } = .next { s with schedule := rest }) ∧
    (∀ d, s.ep0.inStall = false → s.ep0.tx = some d → step { s with schedule := .hostIn0 :: rest } =
      .next { s with
        schedule := rest
        hostLog := s.hostLog ++ [.pkt d]
        ep0 := { s.ep0 with tx := none }
        ev := { s.ev with iepXfrc := s.ev.iepXfrc.set 0 true } })

/-- 60_exceptions.md R368: HOST_ISO is accepted only by an endpoint that is enabled and armed, and dropped without trace
otherwise. A longer packet has no step (R379). Rests on the spec's own decisions D36, D43, D54 of 92_eei_decisions.md, and
log entries 2 and 8 of the model. -/
def Obligations.IsoPacketIsAcceptedOrDropped : Prop :=
  ∀ (s : State) (rest : List Action) (d : List Byte), s.fault = none →
    (196 < d.length → step { s with schedule := .hostIso d :: rest } = .refused .isoTooLong) ∧
    (d.length ≤ 196 → s.iso.active = true → s.iso.armed = true →
      step { s with schedule := .hostIso d :: rest } =
      .next { s with
        schedule := rest
        iso := { s.iso with rxpkt := d, rem := 196 - d.length, armed := false }
        ev := { s.ev with
          rxq := s.ev.rxq ++ [{ kind := .outRx, ep := 1, bcnt := d.length, data := d },
            { kind := .outDone, ep := 1, bcnt := 0, data := [] }]
          oepXfrc := s.ev.oepXfrc.set 1 true } }) ∧
    (d.length ≤ 196 → s.iso.active = false ∨ s.iso.armed = false →
      step { s with schedule := .hostIso d :: rest } = .next { s with schedule := rest })

/-- 60_exceptions.md R373, R374 with 20_memory.md R89: TICK never decreases the count, TOGGLE sets the bit, a consumer's
read changes nothing. Rests on the spec's own decisions D25, D36, D49 of 92_eei_decisions.md, and log entries 2 and 7 of
the model. -/
def Obligations.TimerToggleAndConsumerSteps : Prop :=
  ∀ (s : State) (rest : List Action), s.fault = none →
    (∀ t, s.env.clock ≤ t → step { s with schedule := .tick t :: rest } =
      .next { s with schedule := rest, env := { s.env with clock := t } }) ∧
    (∀ t, t < s.env.clock → step { s with schedule := .tick t :: rest } = .next { s with schedule := rest }) ∧
    (∀ v, step { s with schedule := .toggle v :: rest } =
      .next { s with schedule := rest, env := { s.env with toggle := v } }) ∧
    (∀ c, step { s with schedule := .consume c :: rest } = .next { s with schedule := rest })

/-! The whole machine. -/

/-- 70_reset_and_hazards.md R400: the values the rule states for power-on, no event enabled, and the invariant. The fields
the rule calls "any value" are not stated. Rests on the spec's own decisions D14, D24, D34, D36, D38, D39, D48 of
92_eei_decisions.md. -/
def Obligations.ResetIsThePowerOnState : Prop :=
  let s := State.reset
  s.ctl.phase = .idle ∧ s.ctl.buf = none ∧ s.ctl.totalLen = 0 ∧ s.ctl.sent = 0 ∧ s.ctl.zlpPending = false ∧
  s.ctl.pendingAddress = 0 ∧ s.ctl.addressPending = false ∧
  s.dev = { devAddr := 0, config := 0, asAlt := 0 } ∧
  s.ep0 = { inStall := false, outStall := false, outArmed := false, tx := none, irqUnmasked := false } ∧
  s.iso.active = false ∧ s.iso.armed = false ∧ s.iso.mps = 0 ∧ s.iso.rem = 0 ∧
  s.ev.rstPending = false ∧ s.ev.rxq = [] ∧
  (∀ ep, flagAt s.ev.iepXfrc ep = false ∧ flagAt s.ev.oepXfrc ep = false ∧ flagAt s.ev.oepStup ep = false) ∧
  s.clk.sampleRate.toNat = 48000 ∧ s.clk.valid = true ∧ s.aud.wrIdx = 0 ∧ s.aud.ringIdx = 0 ∧
  s.fault = none ∧ s.hostLog = [] ∧
  resetEnabled s = false ∧ rxEnabled s = false ∧ (∀ ep, inEnabled ep s = false ∧ outEnabled ep s = false)

/-- 10_state.md R69: the invariant holds at power-on. The values log entry 1 names for R400's "any value" are within it.
Rests on the spec's own decision D14 of 92_eei_decisions.md, R69 of 10_state.md, which the spec marks as derived, the
model's deduction (DEDUCED) that R301 of 45_iso_receive.md holds while the completion is pending, and log entries 1 and 19
of the model. -/
def Obligations.ResetMeetsTheInvariants : Prop := Invariant State.reset

/-- 10_state.md R69 with 60_exceptions.md R361 and 45_iso_receive.md R301: every step of every agent keeps the invariant;
no fault is recorded from a state that meets it. Rests on the spec's own decisions D36, D48 of 92_eei_decisions.md, R69 of
10_state.md and R301 of 45_iso_receive.md, which the spec marks as derived, the model's deduction (DEDUCED) that R301
holds while the completion is pending, and log entry 19 of the model. -/
def Obligations.EveryStepKeepsTheInvariants : Prop :=
  ∀ s t : State, Invariant s → step s = .next t → Invariant t

/-- 41_control_sequencer.md R150, R164: the only steps that change the phase are the bus reset, the handling of a setup
entry, EV_IN of EP0 from `DataIn` to `StatusOut` and EV_OUT of EP0 from `StatusOut` to `Idle`. Rests on R150 of
41_control_sequencer.md, which the spec marks as derived. -/
def Obligations.PhaseChangesOnlyByItsTransitions : Prop :=
  ∀ s t : State, step s = .next t → t.ctl.phase ≠ s.ctl.phase →
    (chosen s = some (.event 0x00) ∧ t.ctl.phase = .idle) ∨
    (chosen s = some (.event 0x10) ∧ (headSetup s).isSome = true ∧
      (t.ctl.phase = .idle ∨ t.ctl.phase = .dataIn ∨ t.ctl.phase = .statusOut)) ∨
    (chosen s = some (.event 0x20) ∧ s.ctl.phase = .dataIn ∧ t.ctl.phase = .statusOut) ∨
    (chosen s = some (.event 0x30) ∧ s.ctl.phase = .statusOut ∧ t.ctl.phase = .idle)

/-- 10_state.md R38: the address register is written only by SET_ADDRESS, with its checked `wValue`, and cleared only by
the bus-reset handler. Rests on the spec's own decisions D13, D32 of 92_eei_decisions.md. -/
def Obligations.AddressChangesOnlyBySetAddressOrReset : Prop :=
  ∀ s t : State, step s = .next t → t.dev.devAddr ≠ s.dev.devAddr →
    (chosen s = some (.event 0x00) ∧ t.dev.devAddr = 0) ∨
    (chosen s = some (.event 0x10) ∧ ∃ p, headSetup s = some p ∧ decodeSetup Config.params p = .setAddress p ∧
      t.dev.devAddr.toNat = p.wValue.toNat ∧ p.wIndex = 0 ∧ p.wLength = 0)

/-- 10_state.md R39, R40, R45, R46: the configuration value, the alternate setting, the endpoint's enable bit and its
max-packet-size field are written only by SET_CONFIGURATION and SET_INTERFACE. Rests on the spec's own decisions D9, D13
of 92_eei_decisions.md. -/
def Obligations.ConfigurationChangesOnlyByItsRequests : Prop :=
  ∀ s t : State, step s = .next t →
    (t.dev.config ≠ s.dev.config → ∃ p, chosen s = some (.event 0x10) ∧ headSetup s = some p ∧
      decodeSetup Config.params p = .setConfiguration p) ∧
    (t.dev.asAlt ≠ s.dev.asAlt ∨ t.iso.mps ≠ s.iso.mps → ∃ p, chosen s = some (.event 0x10) ∧ headSetup s = some p ∧
      decodeSetup Config.params p = .setInterface p) ∧
    (t.iso.active ≠ s.iso.active → ∃ p, chosen s = some (.event 0x10) ∧ headSetup s = some p ∧
      (decodeSetup Config.params p = .setConfiguration p ∨ decodeSetup Config.params p = .setInterface p))

/-- 10_state.md R37, R55, R56, R57: no step of any agent writes the clock-source state or the unused address fields. Rests
on the spec's own decisions D34, D39 of 92_eei_decisions.md. -/
def Obligations.ClockSourceNeverChanges : Prop :=
  ∀ s t : State, step s = .next t →
    t.clk = s.clk ∧ t.ctl.pendingAddress = s.ctl.pendingAddress ∧ t.ctl.addressPending = s.ctl.addressPending

/-- 10_state.md R58 to R61 with 20_memory.md R89: the sample buffers, the ring and their indices are written only by the
pipeline, that is by EV_OUT 1 with a pending completion. Rests on the spec's own decision D24 of 92_eei_decisions.md. -/
def Obligations.AudioIsWrittenOnlyByThePipeline : Prop :=
  ∀ s t : State, step s = .next t → t.aud ≠ s.aud →
    chosen s = some (.event 0x31) ∧ s.ep0.irqUnmasked = true ∧ flagAt s.ev.oepXfrc 1 = true

/-- 10_state.md R41 with 41_control_sequencer.md R157: a set stall bit is cleared only by the host's next SETUP or by the
bus-reset handler, and both bits are then clear. Rests on the spec's own decision D12 of 92_eei_decisions.md. -/
def Obligations.StallLastsUntilSetupOrReset : Prop :=
  ∀ s t : State, step s = .next t →
    (s.ep0.inStall = true ∧ t.ep0.inStall = false) ∨ (s.ep0.outStall = true ∧ t.ep0.outStall = false) →
    (chosen s = some (.event 0x00) ∨ ∃ p, chosen s = some (.hostSetup p)) ∧
      t.ep0.inStall = false ∧ t.ep0.outStall = false

/-- 10_state.md R63: the host's log only grows, by at most one entry a step, and only in HOST_IN0 and HOST_OUT0. Rests on
the spec's own decision D36 of 92_eei_decisions.md. -/
def Obligations.HostLogIsAppendedOnlyByTheHost : Prop :=
  ∀ s t : State, step s = .next t →
    t.hostLog = s.hostLog ∨
    (chosen s = some .hostIn0 ∧ s.ep0.inStall = true ∧ t.hostLog = s.hostLog ++ [.stallIn]) ∨
    (chosen s = some .hostIn0 ∧ s.ep0.inStall = false ∧ ∃ d, s.ep0.tx = some d ∧ t.hostLog = s.hostLog ++ [.pkt d]) ∨
    (∃ d, chosen s = some (.hostOut0 d) ∧ s.ep0.outStall = true ∧ t.hostLog = s.hostLog ++ [.stallOut])

/-- 10_state.md R38, R40, R46, R57: no rule reads the address register, the alternate setting, the max-packet-size field
or the clock-locked flag: two states that differ only there take steps to states that differ only there. Rests on the
spec's own decision D39 of 92_eei_decisions.md. -/
def Obligations.UnreadRegistersChangeNothingElse : Prop :=
  ∀ (i : Instr) (s t : State) (addr : BitVec 7) (alt : BitVec 8) (mps : Nat) (locked : Bool), exec i s = .next t →
    ∃ u, exec i { s with
        dev := { s.dev with devAddr := addr, asAlt := alt }
        iso := { s.iso with mps := mps }
        clk := { s.clk with locked := locked } } = .next u ∧
      t = { u with
        dev := { u.dev with devAddr := t.dev.devAddr, asAlt := t.dev.asAlt }
        iso := { u.iso with mps := t.iso.mps }
        clk := { u.clk with locked := t.clk.locked } }

/-- 41_control_sequencer.md R159: a data phase that `Send(d, n)` starts and whose every packet the host takes, each
completion handled, delivers the `⌈n / 64⌉` data packets in order, then one ZLP exactly if 64 divides `n`, and ends in
`StatusOut` with EP0 OUT armed and nothing left in the slot. Rests on the spec's own decisions D10, D36 of
92_eei_decisions.md, R159 of 41_control_sequencer.md, which the spec marks as derived, and log entry 2 of the model. -/
def Obligations.TrailingZlpLaw : Prop :=
  ∀ (s : State) (d : List Byte) (n : Nat) (rest : List Action),
    0 < n → n ≤ d.length → s.fault = none → s.ep0.inStall = false → s.ep0.irqUnmasked = true →
    0 < s.ev.iepXfrc.length → s.schedule = takePackets (dataPackets d n).length ++ rest →
    ∃ t, Host.Core.run Sys2Proof.core (2 * (dataPackets d n).length) (send (some d) n s) = .next t ∧
      t.hostLog = s.hostLog ++ (dataPackets d n).map .pkt ∧
      t.ctl.phase = .statusOut ∧ t.ctl.sent = n ∧ t.ctl.zlpPending = false ∧
      t.ep0.outArmed = true ∧ t.ep0.tx = none ∧ t.schedule = rest ∧ flagAt t.ev.iepXfrc 0 = false

/-- 43_descriptor_server.md R241: a GET_DESCRIPTOR request that serves the table `d` of true length `L` answers a next
state, and when the host then takes every packet and each completion is handled, what it receives is exactly the first `n
= min(wLength, L)` bytes of the table (all `L` for `wLength ≥ L`), in `n / 64 + 1` packets of at most 64 bytes, the empty
one among them exactly if 64 divides `n`. Rests on the spec's own decisions D10, D36, D37 of 92_eei_decisions.md, R241 of
43_descriptor_server.md and R159 of 41_control_sequencer.md, which the spec marks as derived, and log entry 2 of the
model. -/
def Obligations.DataPacketsCarryExactlyTheBytes : Prop :=
  ∀ (i : Instr) (p : SetupPacket) (d : List Byte) (L : Nat) (s : State) (rest : List Action),
    Serves Config.params p i d L →
    s.fault = none → s.ep0.inStall = false → s.ep0.irqUnmasked = true → 0 < s.ev.iepXfrc.length →
    let n := min p.wLength.toNat L
    s.schedule = takePackets (n / 64 + 1) ++ rest →
    ∃ (t u : State) (qs : List (List Byte)), exec i s = .next t ∧ Host.Core.run Sys2Proof.core (2 * (n / 64 + 1)) t = .next u ∧
      u.hostLog = s.hostLog ++ qs.map .pkt ∧ qs.flatten = d.take n ∧ qs.flatten.length = n ∧
      qs.length = n / 64 + 1 ∧ (∀ q ∈ qs, q.length ≤ 64) ∧ ([] ∈ qs ↔ n % 64 = 0) ∧ u.schedule = rest

/-- 30_encoding.md R122 with 60_exceptions.md R370: no encoding traps: every instruction answers a next state, in every
state and with every operand. Rests on the spec's own decisions D18, D30, D44, D48 of 92_eei_decisions.md, and log entries
6 and 7 of the model. -/
def Obligations.EveryInstructionCompletes : Prop :=
  ∀ (i : Instr) (s : State), ∃ t, exec i s = .next t
end

