-- ==== Sys2Proof/Laws/Config.lean ====
section
/-! SUPPORT. The facts about the parameters that every claim may use: they meet the constraints of 00_scope.md R6. -/

namespace Sys2Proof

/-- Every parameter set that keeps a well-formed one but for an endpoint count of at least 2 and the decided parameters is
well-formed. -/
theorem Params.wf_decide (P : Params) (h : P.Wf) (n : Nat) (c : Bool) (t : BitVec 1) :
    Params.Wf { P with numEp := n + 2, replyClamp := c, toggleAActive := t } := by
  obtain ⟨h1, h2, h3, h4, h5, h6, h7, h8, h9, _⟩ := h
  exact ⟨h1, h2, h3, h4, h5, h6, h7, h8, h9, by simp⟩

/-- The model's parameters are a set the model accepts (00_scope.md R6). -/
theorem Config.params_wf : Config.params.Wf := Params.wf_decide _ Config.supplied.wf _ _ _

namespace Config

/-- REPLY_CLAMP is decided false (92_eei_decisions.md D15). -/
@[simp] theorem params_replyClamp : params.replyClamp = false := rfl

/-- TOGGLE_A_ACTIVE is decided 0 (92_eei_decisions.md D22). -/
@[simp] theorem params_toggleAActive : params.toggleAActive = 0 := rfl

theorem params_devDesc_length : params.devDesc.length = 18 := params_wf.1.1

theorem params_cfgDesc_length_le : params.cfgDesc.length ≤ 65535 := params_wf.2.1.2.1

theorem params_cfgDesc_length_ge : 9 ≤ params.cfgDesc.length := params_wf.2.1.1

theorem params_qualDesc_length : 1 ≤ params.qualDesc.length := params_wf.2.2.1

theorem params_strings :
    Params.StringOk params.strDesc.language ∧ Params.StringOk params.strDesc.manufacturer ∧
      Params.StringOk params.strDesc.product := params_wf.2.2.2.1

theorem params_ids_ne : params.clockSourceId ≠ params.clockSelectorId := params_wf.2.2.2.2.1

@[simp] theorem params_token_length : params.keepaliveToken.length = 4 := params_wf.2.2.2.2.2.1

theorem params_bufSamples_even : params.bufSamples % 2 = 0 := params_wf.2.2.2.2.2.2.1.1

theorem params_bufSamples_ge : 2 ≤ params.bufSamples := params_wf.2.2.2.2.2.2.1.2

theorem params_ringCap : 2 ^ Nat.log2 params.ringCap = params.ringCap := params_wf.2.2.2.2.2.2.2.1

theorem params_ringCap_pos : 0 < params.ringCap := by
  rw [← params_ringCap]
  exact Nat.two_pow_pos _

theorem params_numEp_ge : 2 ≤ params.numEp := params_wf.2.2.2.2.2.2.2.2.2

end Config

/-- The mask-based wrap of a power of two is the remainder (45_iso_receive.md R306). -/
theorem and_ringCap_sub_one (P : Params) (h : 2 ^ Nat.log2 P.ringCap = P.ringCap) (x : Nat) :
    x &&& (P.ringCap - 1) = x % P.ringCap := by
  rw [← h, Nat.and_two_pow_sub_one_eq_mod]

end Sys2Proof
end

