-- ==== Sys2Proof/Laws/State.lean ====
section
/-! SUPPORT. One lemma per field per update of the state, each true by rfl and a simp lemma, so that no proof unfolds a
record update. -/

namespace Sys2Proof.Machine

@[simp] theorem State.onCtl_ctl (f : Control → Control) (s : State) : (s.onCtl f).ctl = f s.ctl := rfl
@[simp] theorem State.onCtl_dev (f : Control → Control) (s : State) : (s.onCtl f).dev = s.dev := rfl
@[simp] theorem State.onCtl_ep0 (f : Control → Control) (s : State) : (s.onCtl f).ep0 = s.ep0 := rfl
@[simp] theorem State.onCtl_iso (f : Control → Control) (s : State) : (s.onCtl f).iso = s.iso := rfl
@[simp] theorem State.onCtl_ev (f : Control → Control) (s : State) : (s.onCtl f).ev = s.ev := rfl
@[simp] theorem State.onCtl_clk (f : Control → Control) (s : State) : (s.onCtl f).clk = s.clk := rfl
@[simp] theorem State.onCtl_aud (f : Control → Control) (s : State) : (s.onCtl f).aud = s.aud := rfl
@[simp] theorem State.onCtl_fault (f : Control → Control) (s : State) : (s.onCtl f).fault = s.fault := rfl
@[simp] theorem State.onCtl_hostLog (f : Control → Control) (s : State) : (s.onCtl f).hostLog = s.hostLog := rfl
@[simp] theorem State.onCtl_env (f : Control → Control) (s : State) : (s.onCtl f).env = s.env := rfl
@[simp] theorem State.onCtl_schedule (f : Control → Control) (s : State) : (s.onCtl f).schedule = s.schedule := rfl
@[simp] theorem State.onCtl_drawn (f : Control → Control) (s : State) : (s.onCtl f).drawn = s.drawn := rfl

@[simp] theorem State.onDev_ctl (f : Device → Device) (s : State) : (s.onDev f).ctl = s.ctl := rfl
@[simp] theorem State.onDev_dev (f : Device → Device) (s : State) : (s.onDev f).dev = f s.dev := rfl
@[simp] theorem State.onDev_ep0 (f : Device → Device) (s : State) : (s.onDev f).ep0 = s.ep0 := rfl
@[simp] theorem State.onDev_iso (f : Device → Device) (s : State) : (s.onDev f).iso = s.iso := rfl
@[simp] theorem State.onDev_ev (f : Device → Device) (s : State) : (s.onDev f).ev = s.ev := rfl
@[simp] theorem State.onDev_clk (f : Device → Device) (s : State) : (s.onDev f).clk = s.clk := rfl
@[simp] theorem State.onDev_aud (f : Device → Device) (s : State) : (s.onDev f).aud = s.aud := rfl
@[simp] theorem State.onDev_fault (f : Device → Device) (s : State) : (s.onDev f).fault = s.fault := rfl
@[simp] theorem State.onDev_hostLog (f : Device → Device) (s : State) : (s.onDev f).hostLog = s.hostLog := rfl
@[simp] theorem State.onDev_env (f : Device → Device) (s : State) : (s.onDev f).env = s.env := rfl
@[simp] theorem State.onDev_schedule (f : Device → Device) (s : State) : (s.onDev f).schedule = s.schedule := rfl
@[simp] theorem State.onDev_drawn (f : Device → Device) (s : State) : (s.onDev f).drawn = s.drawn := rfl

@[simp] theorem State.onEp0_ctl (f : Ep0 → Ep0) (s : State) : (s.onEp0 f).ctl = s.ctl := rfl
@[simp] theorem State.onEp0_dev (f : Ep0 → Ep0) (s : State) : (s.onEp0 f).dev = s.dev := rfl
@[simp] theorem State.onEp0_ep0 (f : Ep0 → Ep0) (s : State) : (s.onEp0 f).ep0 = f s.ep0 := rfl
@[simp] theorem State.onEp0_iso (f : Ep0 → Ep0) (s : State) : (s.onEp0 f).iso = s.iso := rfl
@[simp] theorem State.onEp0_ev (f : Ep0 → Ep0) (s : State) : (s.onEp0 f).ev = s.ev := rfl
@[simp] theorem State.onEp0_clk (f : Ep0 → Ep0) (s : State) : (s.onEp0 f).clk = s.clk := rfl
@[simp] theorem State.onEp0_aud (f : Ep0 → Ep0) (s : State) : (s.onEp0 f).aud = s.aud := rfl
@[simp] theorem State.onEp0_fault (f : Ep0 → Ep0) (s : State) : (s.onEp0 f).fault = s.fault := rfl
@[simp] theorem State.onEp0_hostLog (f : Ep0 → Ep0) (s : State) : (s.onEp0 f).hostLog = s.hostLog := rfl
@[simp] theorem State.onEp0_env (f : Ep0 → Ep0) (s : State) : (s.onEp0 f).env = s.env := rfl
@[simp] theorem State.onEp0_schedule (f : Ep0 → Ep0) (s : State) : (s.onEp0 f).schedule = s.schedule := rfl
@[simp] theorem State.onEp0_drawn (f : Ep0 → Ep0) (s : State) : (s.onEp0 f).drawn = s.drawn := rfl

@[simp] theorem State.onIso_ctl (f : Iso → Iso) (s : State) : (s.onIso f).ctl = s.ctl := rfl
@[simp] theorem State.onIso_dev (f : Iso → Iso) (s : State) : (s.onIso f).dev = s.dev := rfl
@[simp] theorem State.onIso_ep0 (f : Iso → Iso) (s : State) : (s.onIso f).ep0 = s.ep0 := rfl
@[simp] theorem State.onIso_iso (f : Iso → Iso) (s : State) : (s.onIso f).iso = f s.iso := rfl
@[simp] theorem State.onIso_ev (f : Iso → Iso) (s : State) : (s.onIso f).ev = s.ev := rfl
@[simp] theorem State.onIso_clk (f : Iso → Iso) (s : State) : (s.onIso f).clk = s.clk := rfl
@[simp] theorem State.onIso_aud (f : Iso → Iso) (s : State) : (s.onIso f).aud = s.aud := rfl
@[simp] theorem State.onIso_fault (f : Iso → Iso) (s : State) : (s.onIso f).fault = s.fault := rfl
@[simp] theorem State.onIso_hostLog (f : Iso → Iso) (s : State) : (s.onIso f).hostLog = s.hostLog := rfl
@[simp] theorem State.onIso_env (f : Iso → Iso) (s : State) : (s.onIso f).env = s.env := rfl
@[simp] theorem State.onIso_schedule (f : Iso → Iso) (s : State) : (s.onIso f).schedule = s.schedule := rfl
@[simp] theorem State.onIso_drawn (f : Iso → Iso) (s : State) : (s.onIso f).drawn = s.drawn := rfl

@[simp] theorem State.onEv_ctl (f : Events → Events) (s : State) : (s.onEv f).ctl = s.ctl := rfl
@[simp] theorem State.onEv_dev (f : Events → Events) (s : State) : (s.onEv f).dev = s.dev := rfl
@[simp] theorem State.onEv_ep0 (f : Events → Events) (s : State) : (s.onEv f).ep0 = s.ep0 := rfl
@[simp] theorem State.onEv_iso (f : Events → Events) (s : State) : (s.onEv f).iso = s.iso := rfl
@[simp] theorem State.onEv_ev (f : Events → Events) (s : State) : (s.onEv f).ev = f s.ev := rfl
@[simp] theorem State.onEv_clk (f : Events → Events) (s : State) : (s.onEv f).clk = s.clk := rfl
@[simp] theorem State.onEv_aud (f : Events → Events) (s : State) : (s.onEv f).aud = s.aud := rfl
@[simp] theorem State.onEv_fault (f : Events → Events) (s : State) : (s.onEv f).fault = s.fault := rfl
@[simp] theorem State.onEv_hostLog (f : Events → Events) (s : State) : (s.onEv f).hostLog = s.hostLog := rfl
@[simp] theorem State.onEv_env (f : Events → Events) (s : State) : (s.onEv f).env = s.env := rfl
@[simp] theorem State.onEv_schedule (f : Events → Events) (s : State) : (s.onEv f).schedule = s.schedule := rfl
@[simp] theorem State.onEv_drawn (f : Events → Events) (s : State) : (s.onEv f).drawn = s.drawn := rfl

@[simp] theorem State.onAud_ctl (f : Audio → Audio) (s : State) : (s.onAud f).ctl = s.ctl := rfl
@[simp] theorem State.onAud_dev (f : Audio → Audio) (s : State) : (s.onAud f).dev = s.dev := rfl
@[simp] theorem State.onAud_ep0 (f : Audio → Audio) (s : State) : (s.onAud f).ep0 = s.ep0 := rfl
@[simp] theorem State.onAud_iso (f : Audio → Audio) (s : State) : (s.onAud f).iso = s.iso := rfl
@[simp] theorem State.onAud_ev (f : Audio → Audio) (s : State) : (s.onAud f).ev = s.ev := rfl
@[simp] theorem State.onAud_clk (f : Audio → Audio) (s : State) : (s.onAud f).clk = s.clk := rfl
@[simp] theorem State.onAud_aud (f : Audio → Audio) (s : State) : (s.onAud f).aud = f s.aud := rfl
@[simp] theorem State.onAud_fault (f : Audio → Audio) (s : State) : (s.onAud f).fault = s.fault := rfl
@[simp] theorem State.onAud_hostLog (f : Audio → Audio) (s : State) : (s.onAud f).hostLog = s.hostLog := rfl
@[simp] theorem State.onAud_env (f : Audio → Audio) (s : State) : (s.onAud f).env = s.env := rfl
@[simp] theorem State.onAud_schedule (f : Audio → Audio) (s : State) : (s.onAud f).schedule = s.schedule := rfl
@[simp] theorem State.onAud_drawn (f : Audio → Audio) (s : State) : (s.onAud f).drawn = s.drawn := rfl

@[simp] theorem State.onEnv_ctl (f : Env → Env) (s : State) : (s.onEnv f).ctl = s.ctl := rfl
@[simp] theorem State.onEnv_dev (f : Env → Env) (s : State) : (s.onEnv f).dev = s.dev := rfl
@[simp] theorem State.onEnv_ep0 (f : Env → Env) (s : State) : (s.onEnv f).ep0 = s.ep0 := rfl
@[simp] theorem State.onEnv_iso (f : Env → Env) (s : State) : (s.onEnv f).iso = s.iso := rfl
@[simp] theorem State.onEnv_ev (f : Env → Env) (s : State) : (s.onEnv f).ev = s.ev := rfl
@[simp] theorem State.onEnv_clk (f : Env → Env) (s : State) : (s.onEnv f).clk = s.clk := rfl
@[simp] theorem State.onEnv_aud (f : Env → Env) (s : State) : (s.onEnv f).aud = s.aud := rfl
@[simp] theorem State.onEnv_fault (f : Env → Env) (s : State) : (s.onEnv f).fault = s.fault := rfl
@[simp] theorem State.onEnv_hostLog (f : Env → Env) (s : State) : (s.onEnv f).hostLog = s.hostLog := rfl
@[simp] theorem State.onEnv_env (f : Env → Env) (s : State) : (s.onEnv f).env = f s.env := rfl
@[simp] theorem State.onEnv_schedule (f : Env → Env) (s : State) : (s.onEnv f).schedule = s.schedule := rfl
@[simp] theorem State.onEnv_drawn (f : Env → Env) (s : State) : (s.onEnv f).drawn = s.drawn := rfl

@[simp] theorem State.logHost_ctl (e : HostEvent) (s : State) : (s.logHost e).ctl = s.ctl := rfl
@[simp] theorem State.logHost_dev (e : HostEvent) (s : State) : (s.logHost e).dev = s.dev := rfl
@[simp] theorem State.logHost_ep0 (e : HostEvent) (s : State) : (s.logHost e).ep0 = s.ep0 := rfl
@[simp] theorem State.logHost_iso (e : HostEvent) (s : State) : (s.logHost e).iso = s.iso := rfl
@[simp] theorem State.logHost_ev (e : HostEvent) (s : State) : (s.logHost e).ev = s.ev := rfl
@[simp] theorem State.logHost_clk (e : HostEvent) (s : State) : (s.logHost e).clk = s.clk := rfl
@[simp] theorem State.logHost_aud (e : HostEvent) (s : State) : (s.logHost e).aud = s.aud := rfl
@[simp] theorem State.logHost_fault (e : HostEvent) (s : State) : (s.logHost e).fault = s.fault := rfl
@[simp] theorem State.logHost_hostLog (e : HostEvent) (s : State) : (s.logHost e).hostLog = s.hostLog ++ [e] := rfl
@[simp] theorem State.logHost_env (e : HostEvent) (s : State) : (s.logHost e).env = s.env := rfl
@[simp] theorem State.logHost_schedule (e : HostEvent) (s : State) : (s.logHost e).schedule = s.schedule := rfl
@[simp] theorem State.logHost_drawn (e : HostEvent) (s : State) : (s.logHost e).drawn = s.drawn := rfl

@[simp] theorem raiseFault_ctl (r : Fault) (s : State) : (raiseFault r s).ctl = s.ctl := rfl
@[simp] theorem raiseFault_dev (r : Fault) (s : State) : (raiseFault r s).dev = s.dev := rfl
@[simp] theorem raiseFault_ep0 (r : Fault) (s : State) : (raiseFault r s).ep0 = s.ep0 := rfl
@[simp] theorem raiseFault_iso (r : Fault) (s : State) : (raiseFault r s).iso = s.iso := rfl
@[simp] theorem raiseFault_ev (r : Fault) (s : State) : (raiseFault r s).ev = s.ev := rfl
@[simp] theorem raiseFault_clk (r : Fault) (s : State) : (raiseFault r s).clk = s.clk := rfl
@[simp] theorem raiseFault_aud (r : Fault) (s : State) : (raiseFault r s).aud = s.aud := rfl
@[simp] theorem raiseFault_fault (r : Fault) (s : State) : (raiseFault r s).fault = some r := rfl
@[simp] theorem raiseFault_hostLog (r : Fault) (s : State) : (raiseFault r s).hostLog = s.hostLog := rfl
@[simp] theorem raiseFault_env (r : Fault) (s : State) : (raiseFault r s).env = s.env := rfl
@[simp] theorem raiseFault_schedule (r : Fault) (s : State) : (raiseFault r s).schedule = s.schedule := rfl
@[simp] theorem raiseFault_drawn (r : Fault) (s : State) : (raiseFault r s).drawn = s.drawn := rfl

end Sys2Proof.Machine
end

