-- ==== Sys2Proof/Laws/Ops.lean ====
section
/-! SUPPORT. One lemma per shared operation that says what it can do, and one simp lemma per group of fields it leaves
alone. The proofs of the claims cite these instead of unfolding the operations. -/

namespace Sys2Proof.Machine

/-! Groups of fields an operation leaves alone. -/

@[simp] theorem txPacket0_ctl (d : List Byte) (s : State) : (txPacket0 d s).ctl = s.ctl := rfl
@[simp] theorem txPacket0_dev (d : List Byte) (s : State) : (txPacket0 d s).dev = s.dev := rfl
@[simp] theorem txPacket0_iso (d : List Byte) (s : State) : (txPacket0 d s).iso = s.iso := rfl
@[simp] theorem txPacket0_ev (d : List Byte) (s : State) : (txPacket0 d s).ev = s.ev := rfl
@[simp] theorem txPacket0_clk (d : List Byte) (s : State) : (txPacket0 d s).clk = s.clk := rfl
@[simp] theorem txPacket0_aud (d : List Byte) (s : State) : (txPacket0 d s).aud = s.aud := rfl
@[simp] theorem txPacket0_fault (d : List Byte) (s : State) : (txPacket0 d s).fault = s.fault := rfl
@[simp] theorem txPacket0_hostLog (d : List Byte) (s : State) : (txPacket0 d s).hostLog = s.hostLog := rfl
@[simp] theorem txPacket0_env (d : List Byte) (s : State) : (txPacket0 d s).env = s.env := rfl
@[simp] theorem txPacket0_schedule (d : List Byte) (s : State) : (txPacket0 d s).schedule = s.schedule := rfl
@[simp] theorem txPacket0_drawn (d : List Byte) (s : State) : (txPacket0 d s).drawn = s.drawn := rfl

@[simp] theorem armOut0_ctl (s : State) : (armOut0 s).ctl = s.ctl := rfl
@[simp] theorem armOut0_dev (s : State) : (armOut0 s).dev = s.dev := rfl
@[simp] theorem armOut0_iso (s : State) : (armOut0 s).iso = s.iso := rfl
@[simp] theorem armOut0_ev (s : State) : (armOut0 s).ev = s.ev := rfl
@[simp] theorem armOut0_clk (s : State) : (armOut0 s).clk = s.clk := rfl
@[simp] theorem armOut0_aud (s : State) : (armOut0 s).aud = s.aud := rfl
@[simp] theorem armOut0_fault (s : State) : (armOut0 s).fault = s.fault := rfl
@[simp] theorem armOut0_hostLog (s : State) : (armOut0 s).hostLog = s.hostLog := rfl
@[simp] theorem armOut0_env (s : State) : (armOut0 s).env = s.env := rfl
@[simp] theorem armOut0_schedule (s : State) : (armOut0 s).schedule = s.schedule := rfl
@[simp] theorem armOut0_drawn (s : State) : (armOut0 s).drawn = s.drawn := rfl

@[simp] theorem armIso_ctl (s : State) : (armIso s).ctl = s.ctl := rfl
@[simp] theorem armIso_dev (s : State) : (armIso s).dev = s.dev := rfl
@[simp] theorem armIso_ep0 (s : State) : (armIso s).ep0 = s.ep0 := rfl
@[simp] theorem armIso_ev (s : State) : (armIso s).ev = s.ev := rfl
@[simp] theorem armIso_clk (s : State) : (armIso s).clk = s.clk := rfl
@[simp] theorem armIso_aud (s : State) : (armIso s).aud = s.aud := rfl
@[simp] theorem armIso_fault (s : State) : (armIso s).fault = s.fault := rfl
@[simp] theorem armIso_hostLog (s : State) : (armIso s).hostLog = s.hostLog := rfl
@[simp] theorem armIso_env (s : State) : (armIso s).env = s.env := rfl
@[simp] theorem armIso_schedule (s : State) : (armIso s).schedule = s.schedule := rfl
@[simp] theorem armIso_drawn (s : State) : (armIso s).drawn = s.drawn := rfl

@[simp] theorem setPhase_dev (ph : Phase) (s : State) : (setPhase ph s).dev = s.dev := rfl
@[simp] theorem setPhase_ep0 (ph : Phase) (s : State) : (setPhase ph s).ep0 = s.ep0 := rfl
@[simp] theorem setPhase_iso (ph : Phase) (s : State) : (setPhase ph s).iso = s.iso := rfl
@[simp] theorem setPhase_ev (ph : Phase) (s : State) : (setPhase ph s).ev = s.ev := rfl
@[simp] theorem setPhase_clk (ph : Phase) (s : State) : (setPhase ph s).clk = s.clk := rfl
@[simp] theorem setPhase_aud (ph : Phase) (s : State) : (setPhase ph s).aud = s.aud := rfl
@[simp] theorem setPhase_fault (ph : Phase) (s : State) : (setPhase ph s).fault = s.fault := rfl
@[simp] theorem setPhase_hostLog (ph : Phase) (s : State) : (setPhase ph s).hostLog = s.hostLog := rfl
@[simp] theorem setPhase_env (ph : Phase) (s : State) : (setPhase ph s).env = s.env := rfl
@[simp] theorem setPhase_schedule (ph : Phase) (s : State) : (setPhase ph s).schedule = s.schedule := rfl
@[simp] theorem setPhase_drawn (ph : Phase) (s : State) : (setPhase ph s).drawn = s.drawn := rfl

@[simp] theorem stall0_dev (s : State) : (stall0 s).dev = s.dev := rfl
@[simp] theorem stall0_iso (s : State) : (stall0 s).iso = s.iso := rfl
@[simp] theorem stall0_ev (s : State) : (stall0 s).ev = s.ev := rfl
@[simp] theorem stall0_clk (s : State) : (stall0 s).clk = s.clk := rfl
@[simp] theorem stall0_aud (s : State) : (stall0 s).aud = s.aud := rfl
@[simp] theorem stall0_fault (s : State) : (stall0 s).fault = s.fault := rfl
@[simp] theorem stall0_hostLog (s : State) : (stall0 s).hostLog = s.hostLog := rfl
@[simp] theorem stall0_env (s : State) : (stall0 s).env = s.env := rfl
@[simp] theorem stall0_schedule (s : State) : (stall0 s).schedule = s.schedule := rfl
@[simp] theorem stall0_drawn (s : State) : (stall0 s).drawn = s.drawn := rfl

@[simp] theorem popRx_ctl (s : State) : (popRx s).ctl = s.ctl := rfl
@[simp] theorem popRx_dev (s : State) : (popRx s).dev = s.dev := rfl
@[simp] theorem popRx_ep0 (s : State) : (popRx s).ep0 = s.ep0 := rfl
@[simp] theorem popRx_iso (s : State) : (popRx s).iso = s.iso := rfl
@[simp] theorem popRx_clk (s : State) : (popRx s).clk = s.clk := rfl
@[simp] theorem popRx_aud (s : State) : (popRx s).aud = s.aud := rfl
@[simp] theorem popRx_fault (s : State) : (popRx s).fault = s.fault := rfl
@[simp] theorem popRx_hostLog (s : State) : (popRx s).hostLog = s.hostLog := rfl
@[simp] theorem popRx_env (s : State) : (popRx s).env = s.env := rfl
@[simp] theorem popRx_schedule (s : State) : (popRx s).schedule = s.schedule := rfl
@[simp] theorem popRx_drawn (s : State) : (popRx s).drawn = s.drawn := rfl

@[simp] theorem setIepXfrc_ctl (ep : Nat) (v : Bool) (s : State) : (setIepXfrc ep v s).ctl = s.ctl := rfl
@[simp] theorem setIepXfrc_dev (ep : Nat) (v : Bool) (s : State) : (setIepXfrc ep v s).dev = s.dev := rfl
@[simp] theorem setIepXfrc_ep0 (ep : Nat) (v : Bool) (s : State) : (setIepXfrc ep v s).ep0 = s.ep0 := rfl
@[simp] theorem setIepXfrc_iso (ep : Nat) (v : Bool) (s : State) : (setIepXfrc ep v s).iso = s.iso := rfl
@[simp] theorem setIepXfrc_clk (ep : Nat) (v : Bool) (s : State) : (setIepXfrc ep v s).clk = s.clk := rfl
@[simp] theorem setIepXfrc_aud (ep : Nat) (v : Bool) (s : State) : (setIepXfrc ep v s).aud = s.aud := rfl
@[simp] theorem setIepXfrc_fault (ep : Nat) (v : Bool) (s : State) : (setIepXfrc ep v s).fault = s.fault := rfl
@[simp] theorem setIepXfrc_hostLog (ep : Nat) (v : Bool) (s : State) : (setIepXfrc ep v s).hostLog = s.hostLog := rfl
@[simp] theorem setIepXfrc_env (ep : Nat) (v : Bool) (s : State) : (setIepXfrc ep v s).env = s.env := rfl
@[simp] theorem setIepXfrc_schedule (ep : Nat) (v : Bool) (s : State) : (setIepXfrc ep v s).schedule = s.schedule := rfl
@[simp] theorem setIepXfrc_drawn (ep : Nat) (v : Bool) (s : State) : (setIepXfrc ep v s).drawn = s.drawn := rfl

@[simp] theorem setOepXfrc_ctl (ep : Nat) (v : Bool) (s : State) : (setOepXfrc ep v s).ctl = s.ctl := rfl
@[simp] theorem setOepXfrc_dev (ep : Nat) (v : Bool) (s : State) : (setOepXfrc ep v s).dev = s.dev := rfl
@[simp] theorem setOepXfrc_ep0 (ep : Nat) (v : Bool) (s : State) : (setOepXfrc ep v s).ep0 = s.ep0 := rfl
@[simp] theorem setOepXfrc_iso (ep : Nat) (v : Bool) (s : State) : (setOepXfrc ep v s).iso = s.iso := rfl
@[simp] theorem setOepXfrc_clk (ep : Nat) (v : Bool) (s : State) : (setOepXfrc ep v s).clk = s.clk := rfl
@[simp] theorem setOepXfrc_aud (ep : Nat) (v : Bool) (s : State) : (setOepXfrc ep v s).aud = s.aud := rfl
@[simp] theorem setOepXfrc_fault (ep : Nat) (v : Bool) (s : State) : (setOepXfrc ep v s).fault = s.fault := rfl
@[simp] theorem setOepXfrc_hostLog (ep : Nat) (v : Bool) (s : State) : (setOepXfrc ep v s).hostLog = s.hostLog := rfl
@[simp] theorem setOepXfrc_env (ep : Nat) (v : Bool) (s : State) : (setOepXfrc ep v s).env = s.env := rfl
@[simp] theorem setOepXfrc_schedule (ep : Nat) (v : Bool) (s : State) : (setOepXfrc ep v s).schedule = s.schedule := rfl
@[simp] theorem setOepXfrc_drawn (ep : Nat) (v : Bool) (s : State) : (setOepXfrc ep v s).drawn = s.drawn := rfl

@[simp] theorem setOepStup_ctl (ep : Nat) (v : Bool) (s : State) : (setOepStup ep v s).ctl = s.ctl := rfl
@[simp] theorem setOepStup_dev (ep : Nat) (v : Bool) (s : State) : (setOepStup ep v s).dev = s.dev := rfl
@[simp] theorem setOepStup_ep0 (ep : Nat) (v : Bool) (s : State) : (setOepStup ep v s).ep0 = s.ep0 := rfl
@[simp] theorem setOepStup_iso (ep : Nat) (v : Bool) (s : State) : (setOepStup ep v s).iso = s.iso := rfl
@[simp] theorem setOepStup_clk (ep : Nat) (v : Bool) (s : State) : (setOepStup ep v s).clk = s.clk := rfl
@[simp] theorem setOepStup_aud (ep : Nat) (v : Bool) (s : State) : (setOepStup ep v s).aud = s.aud := rfl
@[simp] theorem setOepStup_fault (ep : Nat) (v : Bool) (s : State) : (setOepStup ep v s).fault = s.fault := rfl
@[simp] theorem setOepStup_hostLog (ep : Nat) (v : Bool) (s : State) : (setOepStup ep v s).hostLog = s.hostLog := rfl
@[simp] theorem setOepStup_env (ep : Nat) (v : Bool) (s : State) : (setOepStup ep v s).env = s.env := rfl
@[simp] theorem setOepStup_schedule (ep : Nat) (v : Bool) (s : State) : (setOepStup ep v s).schedule = s.schedule := rfl
@[simp] theorem setOepStup_drawn (ep : Nat) (v : Bool) (s : State) : (setOepStup ep v s).drawn = s.drawn := rfl

@[simp] theorem pushRx_ctl (es : List RxEntry) (s : State) : (pushRx es s).ctl = s.ctl := rfl
@[simp] theorem pushRx_dev (es : List RxEntry) (s : State) : (pushRx es s).dev = s.dev := rfl
@[simp] theorem pushRx_ep0 (es : List RxEntry) (s : State) : (pushRx es s).ep0 = s.ep0 := rfl
@[simp] theorem pushRx_iso (es : List RxEntry) (s : State) : (pushRx es s).iso = s.iso := rfl
@[simp] theorem pushRx_clk (es : List RxEntry) (s : State) : (pushRx es s).clk = s.clk := rfl
@[simp] theorem pushRx_aud (es : List RxEntry) (s : State) : (pushRx es s).aud = s.aud := rfl
@[simp] theorem pushRx_fault (es : List RxEntry) (s : State) : (pushRx es s).fault = s.fault := rfl
@[simp] theorem pushRx_hostLog (es : List RxEntry) (s : State) : (pushRx es s).hostLog = s.hostLog := rfl
@[simp] theorem pushRx_env (es : List RxEntry) (s : State) : (pushRx es s).env = s.env := rfl
@[simp] theorem pushRx_schedule (es : List RxEntry) (s : State) : (pushRx es s).schedule = s.schedule := rfl
@[simp] theorem pushRx_drawn (es : List RxEntry) (s : State) : (pushRx es s).drawn = s.drawn := rfl

@[simp] theorem sendStep_dev (s : State) : (sendStep s).dev = s.dev := by
  unfold sendStep
  split <;> [rfl; (split <;> rfl)]
@[simp] theorem sendStep_iso (s : State) : (sendStep s).iso = s.iso := by
  unfold sendStep
  split <;> [rfl; (split <;> rfl)]
@[simp] theorem sendStep_ev (s : State) : (sendStep s).ev = s.ev := by
  unfold sendStep
  split <;> [rfl; (split <;> rfl)]
@[simp] theorem sendStep_clk (s : State) : (sendStep s).clk = s.clk := by
  unfold sendStep
  split <;> [rfl; (split <;> rfl)]
@[simp] theorem sendStep_aud (s : State) : (sendStep s).aud = s.aud := by
  unfold sendStep
  split <;> [rfl; (split <;> rfl)]
@[simp] theorem sendStep_fault (s : State) : (sendStep s).fault = s.fault := by
  unfold sendStep
  split <;> [rfl; (split <;> rfl)]
@[simp] theorem sendStep_hostLog (s : State) : (sendStep s).hostLog = s.hostLog := by
  unfold sendStep
  split <;> [rfl; (split <;> rfl)]
@[simp] theorem sendStep_env (s : State) : (sendStep s).env = s.env := by
  unfold sendStep
  split <;> [rfl; (split <;> rfl)]
@[simp] theorem sendStep_schedule (s : State) : (sendStep s).schedule = s.schedule := by
  unfold sendStep
  split <;> [rfl; (split <;> rfl)]
@[simp] theorem sendStep_drawn (s : State) : (sendStep s).drawn = s.drawn := by
  unfold sendStep
  split <;> [rfl; (split <;> rfl)]

@[simp] theorem send_dev (d : Option (List Byte)) (n : Nat) (s : State) : (send d n s).dev = s.dev := by
  unfold send
  split <;> [rfl; (split <;> simp)]
@[simp] theorem send_iso (d : Option (List Byte)) (n : Nat) (s : State) : (send d n s).iso = s.iso := by
  unfold send
  split <;> [rfl; (split <;> simp)]
@[simp] theorem send_ev (d : Option (List Byte)) (n : Nat) (s : State) : (send d n s).ev = s.ev := by
  unfold send
  split <;> [rfl; (split <;> simp)]
@[simp] theorem send_clk (d : Option (List Byte)) (n : Nat) (s : State) : (send d n s).clk = s.clk := by
  unfold send
  split <;> [rfl; (split <;> simp)]
@[simp] theorem send_aud (d : Option (List Byte)) (n : Nat) (s : State) : (send d n s).aud = s.aud := by
  unfold send
  split <;> [rfl; (split <;> simp)]
@[simp] theorem send_fault (d : Option (List Byte)) (n : Nat) (s : State) : (send d n s).fault = s.fault := by
  unfold send
  split <;> [rfl; (split <;> simp)]
@[simp] theorem send_hostLog (d : Option (List Byte)) (n : Nat) (s : State) : (send d n s).hostLog = s.hostLog := by
  unfold send
  split <;> [rfl; (split <;> simp)]
@[simp] theorem send_env (d : Option (List Byte)) (n : Nat) (s : State) : (send d n s).env = s.env := by
  unfold send
  split <;> [rfl; (split <;> simp)]
@[simp] theorem send_schedule (d : Option (List Byte)) (n : Nat) (s : State) : (send d n s).schedule = s.schedule := by
  unfold send
  split <;> [rfl; (split <;> simp)]
@[simp] theorem send_drawn (d : Option (List Byte)) (n : Nat) (s : State) : (send d n s).drawn = s.drawn := by
  unfold send
  split <;> [rfl; (split <;> simp)]

@[simp] theorem onInDone0_dev (s : State) : (onInDone0 s).dev = s.dev := by
  unfold onInDone0
  split <;> simp
@[simp] theorem onInDone0_iso (s : State) : (onInDone0 s).iso = s.iso := by
  unfold onInDone0
  split <;> simp
@[simp] theorem onInDone0_ev (s : State) : (onInDone0 s).ev = s.ev := by
  unfold onInDone0
  split <;> simp
@[simp] theorem onInDone0_clk (s : State) : (onInDone0 s).clk = s.clk := by
  unfold onInDone0
  split <;> simp
@[simp] theorem onInDone0_aud (s : State) : (onInDone0 s).aud = s.aud := by
  unfold onInDone0
  split <;> simp
@[simp] theorem onInDone0_fault (s : State) : (onInDone0 s).fault = s.fault := by
  unfold onInDone0
  split <;> simp
@[simp] theorem onInDone0_hostLog (s : State) : (onInDone0 s).hostLog = s.hostLog := by
  unfold onInDone0
  split <;> simp
@[simp] theorem onInDone0_env (s : State) : (onInDone0 s).env = s.env := by
  unfold onInDone0
  split <;> simp
@[simp] theorem onInDone0_schedule (s : State) : (onInDone0 s).schedule = s.schedule := by
  unfold onInDone0
  split <;> simp
@[simp] theorem onInDone0_drawn (s : State) : (onInDone0 s).drawn = s.drawn := by
  unfold onInDone0
  split <;> simp

@[simp] theorem onOutDone0_dev (s : State) : (onOutDone0 s).dev = s.dev := by
  unfold onOutDone0
  split <;> simp
@[simp] theorem onOutDone0_ep0 (s : State) : (onOutDone0 s).ep0 = s.ep0 := by
  unfold onOutDone0
  split <;> simp
@[simp] theorem onOutDone0_iso (s : State) : (onOutDone0 s).iso = s.iso := by
  unfold onOutDone0
  split <;> simp
@[simp] theorem onOutDone0_ev (s : State) : (onOutDone0 s).ev = s.ev := by
  unfold onOutDone0
  split <;> simp
@[simp] theorem onOutDone0_clk (s : State) : (onOutDone0 s).clk = s.clk := by
  unfold onOutDone0
  split <;> simp
@[simp] theorem onOutDone0_aud (s : State) : (onOutDone0 s).aud = s.aud := by
  unfold onOutDone0
  split <;> simp
@[simp] theorem onOutDone0_fault (s : State) : (onOutDone0 s).fault = s.fault := by
  unfold onOutDone0
  split <;> simp
@[simp] theorem onOutDone0_hostLog (s : State) : (onOutDone0 s).hostLog = s.hostLog := by
  unfold onOutDone0
  split <;> simp
@[simp] theorem onOutDone0_env (s : State) : (onOutDone0 s).env = s.env := by
  unfold onOutDone0
  split <;> simp
@[simp] theorem onOutDone0_schedule (s : State) : (onOutDone0 s).schedule = s.schedule := by
  unfold onOutDone0
  split <;> simp
@[simp] theorem onOutDone0_drawn (s : State) : (onOutDone0 s).drawn = s.drawn := by
  unfold onOutDone0
  split <;> simp

@[simp] theorem isoReceive_ctl (P : Params) (s : State) : (isoReceive P s).ctl = s.ctl := rfl
@[simp] theorem isoReceive_dev (P : Params) (s : State) : (isoReceive P s).dev = s.dev := rfl
@[simp] theorem isoReceive_ep0 (P : Params) (s : State) : (isoReceive P s).ep0 = s.ep0 := rfl
@[simp] theorem isoReceive_ev (P : Params) (s : State) : (isoReceive P s).ev = s.ev := rfl
@[simp] theorem isoReceive_clk (P : Params) (s : State) : (isoReceive P s).clk = s.clk := rfl
@[simp] theorem isoReceive_fault (P : Params) (s : State) : (isoReceive P s).fault = s.fault := rfl
@[simp] theorem isoReceive_hostLog (P : Params) (s : State) : (isoReceive P s).hostLog = s.hostLog := rfl
@[simp] theorem isoReceive_env (P : Params) (s : State) : (isoReceive P s).env = s.env := rfl
@[simp] theorem isoReceive_schedule (P : Params) (s : State) : (isoReceive P s).schedule = s.schedule := rfl
@[simp] theorem isoReceive_drawn (P : Params) (s : State) : (isoReceive P s).drawn = s.drawn := rfl

/-! The two fields of a touched group that an operation writes. -/

@[simp] theorem setPhase_ctl (ph : Phase) (s : State) : (setPhase ph s).ctl = { s.ctl with phase := ph } := rfl

@[simp] theorem txPacket0_ep0 (d : List Byte) (s : State) : (txPacket0 d s).ep0 = { s.ep0 with tx := some d } := rfl

@[simp] theorem armOut0_ep0 (s : State) : (armOut0 s).ep0 = { s.ep0 with outArmed := true } := rfl

@[simp] theorem armIso_iso (s : State) : (armIso s).iso = { s.iso with rem := 196, armed := true } := rfl

@[simp] theorem popRx_ev (s : State) : (popRx s).ev = { s.ev with rxq := s.ev.rxq.tail } := rfl

@[simp] theorem pushRx_ev (es : List RxEntry) (s : State) :
    (pushRx es s).ev = { s.ev with rxq := s.ev.rxq ++ es } := rfl

@[simp] theorem setIepXfrc_ev (ep : Nat) (v : Bool) (s : State) :
    (setIepXfrc ep v s).ev = { s.ev with iepXfrc := s.ev.iepXfrc.set ep v } := rfl

@[simp] theorem setOepXfrc_ev (ep : Nat) (v : Bool) (s : State) :
    (setOepXfrc ep v s).ev = { s.ev with oepXfrc := s.ev.oepXfrc.set ep v } := rfl

@[simp] theorem setOepStup_ev (ep : Nat) (v : Bool) (s : State) :
    (setOepStup ep v s).ev = { s.ev with oepStup := s.ev.oepStup.set ep v } := rfl

/-! What an operation can do. -/

/-- The zero-length arm of `Send`: a ZLP and the phase `StatusOut` (41_control_sequencer.md R152). -/
theorem send_zero (d : Option (List Byte)) (s : State) :
    send d 0 s = setPhase .statusOut (txPacket0 [] s) := rfl

/-- The data arm of `Send` with its first packet (41_control_sequencer.md R154, R155). -/
theorem send_data (d : List Byte) (n : Nat) (s : State) (hn : 0 < n) :
    send (some d) n s =
      { s with
        ctl := { s.ctl with
          phase := .dataIn, buf := some d, totalLen := n, sent := min n 64, zlpPending := decide (n = 64) }
        ep0 := { s.ep0 with tx := some (d.take (min n 64)) } } := by
  have h0 : n ≠ 0 := by omega
  simp [send, h0, sendStep, startData, hn, txPacket0, nextPacket, slice, afterPacket, State.onEp0, State.onCtl]
  rw [← Bool.decide_and]
  exact decide_eq_decide.mpr ⟨fun h => by omega, fun h => by omega⟩

/-- A request whose handler ACKs (41_control_sequencer.md R151, R152, R163). -/
theorem onSetup_ack (p : SetupPacket) (s : State) : onSetup p ack s = s.afterAck p := rfl

/-- A request whose handler stalls (41_control_sequencer.md R151, R157). -/
theorem onSetup_stall (p : SetupPacket) (s : State) : onSetup p stall0 s = s.afterStall p := rfl

/-- A request whose handler sends `n > 0` bytes of `d` (41_control_sequencer.md R151, R154, R155). -/
theorem onSetup_send (p : SetupPacket) (d : List Byte) (n : Nat) (s : State) (hn : 0 < n) :
    onSetup p (send (some d) n) s = s.afterData p d n := by
  simp [onSetup, send_data d n _ hn, State.afterData, State.onCtl, recordSetup]

/-- A request whose handler serves a descriptor (43_descriptor_server.md R235). -/
theorem onSetup_serve (p : SetupPacket) (d : List Byte) (L : Nat) (s : State) :
    onSetup p (serve d L) s = s.afterServe p d L := by
  have h : onSetup p (serve d L) s = onSetup p (send (some d) (min p.wLength.toNat L)) s := rfl
  rw [h, State.afterServe]
  split
  · next h0 => rw [h0]; rfl
  · next h0 => exact onSetup_send p d _ s (by omega)

/-- A request whose handler replies a non-empty fixed list (41_control_sequencer.md R163 with REPLY_CLAMP false). -/
theorem onSetup_reply (p : SetupPacket) (d : List Byte) (s : State) (hd : 0 < d.length) :
    onSetup p (reply Config.params d) s = s.afterData p d d.length := by
  have h : onSetup p (reply Config.params d) s = onSetup p (send (some d) d.length) s := by
    simp [onSetup, reply]
  rw [h, onSetup_send p d _ s hd]

theorem decodeDescriptor_packet (p : SetupPacket) : (decodeDescriptor p).packet? = some p := by
  unfold decodeDescriptor
  split_ifs <;> rfl

theorem decodeStandard_packet (p : SetupPacket) : (decodeStandard p).packet? = some p := by
  unfold decodeStandard
  split_ifs <;> first | rfl | exact decodeDescriptor_packet p

theorem decodeFreq_packet (p : SetupPacket) : (decodeFreq p).packet? = some p := by
  unfold decodeFreq
  split_ifs <;> rfl

theorem decodeValid_packet (p : SetupPacket) : (decodeValid p).packet? = some p := by
  unfold decodeValid
  split_ifs <;> rfl

theorem decodeSelector_packet (p : SetupPacket) : (decodeSelector p).packet? = some p := by
  unfold decodeSelector
  split_ifs <;> rfl

theorem decodeEntity_packet (P : Params) (p : SetupPacket) : (decodeEntity P p).packet? = some p := by
  unfold decodeEntity
  split_ifs <;> first | rfl | exact decodeFreq_packet p | exact decodeValid_packet p | exact decodeSelector_packet p

theorem decodeClass_packet (P : Params) (p : SetupPacket) : (decodeClass P p).packet? = some p := by
  unfold decodeClass
  split_ifs <;> first | rfl | exact decodeEntity_packet P p

theorem decodeVendor_packet (p : SetupPacket) : (decodeVendor p).packet? = some p := by
  unfold decodeVendor
  split_ifs <;> rfl

/-- The decoder of setup packets answers a request that carries the packet (30_encoding.md R117). -/
theorem decodeSetup_isRequest (P : Params) (p : SetupPacket) : (decodeSetup P p).packet? = some p := by
  unfold decodeSetup
  split_ifs
  · exact decodeStandard_packet p
  · exact decodeClass_packet P p
  · exact decodeVendor_packet p
  · rfl

/-- Running a request is its meaning (42_standard_requests.md R190). -/
theorem runRequest_eq_exec (i : Instr) (p : SetupPacket) (h : i.packet? = some p) (s : State) :
    runRequest i s = exec i s := by
  cases i <;> first | rfl | simp [Instr.packet?] at h

/-- The write index after `k` groups (45_iso_receive.md R304). -/
theorem writeGroup_wrIdx (P : Params) (b : Buffer) (d : List Byte) (a : Audio) (g : Nat) :
    (writeGroup P b d a g).wrIdx = (a.wrIdx + 2) % P.bufSamples := by
  cases b <;> rfl

/-- A group writes neither the ring nor its index (45_iso_receive.md R303). -/
theorem writeGroup_ring (P : Params) (b : Buffer) (d : List Byte) (a : Audio) (g : Nat) :
    (writeGroup P b d a g).ring = a.ring ∧ (writeGroup P b d a g).ringIdx = a.ringIdx := by
  cases b <;> exact ⟨rfl, rfl⟩

/-- A group writes one buffer at two positions, the other buffer not at all (45_iso_receive.md R303). -/
theorem writeGroup_buffer (P : Params) (b : Buffer) (d : List Byte) (a : Audio) (g : Nat) :
    (writeGroup P b d a g).buffer b =
        ((a.buffer b).set a.wrIdx (leftSample d g)).set (a.wrIdx + 1) (rightSample d g) ∧
      (writeGroup P b d a g).buffer b.other = a.buffer b.other := by
  cases b <;> exact ⟨rfl, rfl⟩

/-- The demultiplexer one group at a time. -/
theorem demux_succ (P : Params) (b : Buffer) (d : List Byte) (k : Nat) (a : Audio) :
    demux P b d (k + 1) a = writeGroup P b d (demux P b d k a) k := by
  simp [demux, List.range_succ]

/-- A demultiplexed packet writes neither the ring nor its index, nor the other buffer (45_iso_receive.md R300). -/
theorem demux_frame (P : Params) (b : Buffer) (d : List Byte) (k : Nat) (a : Audio) :
    (demux P b d k a).ring = a.ring ∧ (demux P b d k a).ringIdx = a.ringIdx ∧
      (demux P b d k a).buffer b.other = a.buffer b.other := by
  induction k with
  | zero => exact ⟨rfl, rfl, rfl⟩
  | succ k ih =>
    rw [demux_succ]
    exact ⟨(writeGroup_ring ..).1.trans ih.1, (writeGroup_ring ..).2.trans ih.2.1,
      (writeGroup_buffer ..).2.trans ih.2.2⟩

/-- `IsoReceive` keeps the state it names and arms the endpoint (45_iso_receive.md R300, R307). -/
theorem isoReceive_iso (P : Params) (s : State) : (isoReceive P s).iso = { s.iso with rem := 196, armed := true } := rfl

/-- No fault of the pipeline in a state whose completion is pending as R301 says. -/
theorem isoFault_none (s : State) (h : s.iso.rem = 196 ∨ s.iso.rem + s.iso.rxpkt.length = 196) : isoFault s = none := by
  unfold isoFault
  split
  · next h1 => simp at h1; omega
  · split
    · next h1 => simp at h1; omega
    · rfl

end Sys2Proof.Machine
end

