-- ==== Sys2Proof/Laws/Requests.lean ====
section
/-! SUPPORT. Everything a request can do, said once for all 31 of them (41_control_sequencer.md R151, R162). -/

namespace Sys2Proof.Machine

/-- What the request `i` with the packet `p` leaves of the state `s`: a stall, a data phase, an ACK, or one of the four
ACKs that write a register first. -/
inductive RequestOutcome (i : Instr) (p : SetupPacket) (s : State) : State → Prop where
  | stall : RequestOutcome i p s (s.afterStall p)
  | data (d : List Byte) (n : Nat) (pos : 0 < n) (fits : n ≤ d.length) (small : n ≤ 65535) :
    RequestOutcome i p s (s.afterData p d n)
  | ack : RequestOutcome i p s (s.afterAck p)
  | address (hi : i = .setAddress p) (hv : p.wValue.toNat ≤ 0x7F) (hx : p.wIndex = 0) (hl : p.wLength = 0) :
    RequestOutcome i p s
      (State.afterAck p { s with dev := { s.dev with devAddr := p.wValue.extractLsb' 0 7 } })
  | unconfigure (hi : i = .setConfiguration p) :
    RequestOutcome i p s (State.afterAck p { s with dev := { s.dev with config := 0 } })
  | configure (hi : i = .setConfiguration p) :
    RequestOutcome i p s
      (State.afterAck p { s with dev := { s.dev with config := 1 }, iso := { s.iso with active := true } })
  | disable (hi : i = .setInterface p) :
    RequestOutcome i p s
      (State.afterAck p
        { s with dev := { s.dev with asAlt := 0 }, iso := { s.iso with active := false, armed := false } })
  | enable (hi : i = .setInterface p) :
    RequestOutcome i p s
      (State.afterAck p
        { s with
          dev := { s.dev with asAlt := 1 }
          iso := { s.iso with active := true, mps := 196, rem := 196, armed := true } })

theorem outcome_serve (i : Instr) (p : SetupPacket) (d : List Byte) (L : Nat) (s : State) (h : L ≤ d.length) :
    RequestOutcome i p s (onSetup p (serve d L) s) := by
  rw [onSetup_serve, State.afterServe]
  have hw := p.wLength.isLt
  split
  · exact .ack
  · exact .data d _ (by omega) (by omega) (by omega)

theorem outcome_reply (i : Instr) (p : SetupPacket) (d : List Byte) (s : State) (h0 : 0 < d.length)
    (h1 : d.length ≤ 65535) : RequestOutcome i p s (onSetup p (reply Config.params d) s) := by
  rw [onSetup_reply p d s h0]
  exact .data d _ h0 (Nat.le_refl _) h1

theorem outcome_setAddress (p : SetupPacket) (s : State) :
    RequestOutcome (.setAddress p) p s (onSetup p setAddress s) := by
  by_cases h : p.wValue > Config.addrMax ∨ p.wIndex ≠ 0 ∨ p.wLength ≠ 0
  · have e : onSetup p setAddress s = s.afterStall p := if_pos h
    rw [e]
    exact .stall
  · have e : onSetup p setAddress s =
        State.afterAck p { s with dev := { s.dev with devAddr := p.wValue.extractLsb' 0 7 } } := if_neg h
    rw [e]
    simp only [not_or, Config.addrMax, not_not] at h
    exact .address rfl (by have := h.1; bv_omega) h.2.1 h.2.2

theorem outcome_setConfiguration (p : SetupPacket) (s : State) :
    RequestOutcome (.setConfiguration p) p s (onSetup p setConfiguration s) := by
  by_cases h : p.wValue > 1
  · have e : onSetup p setConfiguration s = s.afterStall p := if_pos h
    rw [e]
    exact .stall
  · rcases (show p.wValue = 0 ∨ p.wValue = 1 by bv_omega) with h0 | h1
    · have e : onSetup p setConfiguration s = State.afterAck p { s with dev := { s.dev with config := 0 } } := by
        simp [onSetup, setConfiguration, State.onCtl, recordSetup, h0]
        rfl
      rw [e]
      exact .unconfigure rfl
    · have e : onSetup p setConfiguration s =
          State.afterAck p { s with dev := { s.dev with config := 1 }, iso := { s.iso with active := true } } := by
        simp [onSetup, setConfiguration, State.onCtl, recordSetup, h1]
        rfl
      rw [e]
      exact .configure rfl

theorem outcome_setInterface (p : SetupPacket) (s : State) :
    RequestOutcome (.setInterface p) p s (onSetup p setInterface s) := by
  unfold onSetup setInterface
  split
  · exact .ack
  · split
    · exact .disable rfl
    · split
      · exact .enable rfl
      · exact .stall

theorem outcome_string (p : SetupPacket) (s : State) :
    RequestOutcome (.getDescriptorString p) p s (onSetup p getDescriptorString s) := by
  obtain ⟨h0, h1, h2⟩ := Config.params_strings
  have e : onSetup p getDescriptorString s =
      match stringTable Config.params p.dindex with
      | some d => onSetup p (serve d (byteAt d 0).toNat) s
      | none => s.afterStall p := by
    cases h : stringTable Config.params p.dindex with
    | some d => simp [onSetup, getDescriptorString, State.onCtl, recordSetup, h]
    | none =>
      simp [onSetup, getDescriptorString, State.onCtl, recordSetup, h]
      rfl
  rw [e]
  unfold stringTable
  split_ifs
  · exact outcome_serve _ p _ _ s h0.2
  · exact outcome_serve _ p _ _ s h1.2
  · exact outcome_serve _ p _ _ s h2.2
  · exact .stall

/-- Every request answers a next state, one of the outcomes above. -/
theorem request_cases (i : Instr) (p : SetupPacket) (s : State) (h : i.packet? = some p) :
    ∃ t, exec i s = .next t ∧ RequestOutcome i p s t := by
  cases i <;> simp only [Instr.packet?, Option.some.injEq, reduceCtorEq] at h <;> subst h <;> refine ⟨_, rfl, ?_⟩
  case getStatus => exact outcome_reply _ _ _ s (by decide) (by decide)
  case setAddress => exact outcome_setAddress _ s
  case getDescriptorDevice => exact outcome_serve _ _ _ _ s (Config.params_devDesc_length.symm.le)
  case getDescriptorConfiguration => exact outcome_serve _ _ _ _ s (Nat.le_refl _)
  case getDescriptorString => exact outcome_string _ s
  case getDescriptorQualifier => exact outcome_serve _ _ _ _ s (Nat.le_refl _)
  case getConfiguration p => exact outcome_reply (.getConfiguration p) p [s.dev.config] s (by simp) (by simp)
  case setConfiguration => exact outcome_setConfiguration _ s
  case setInterface => exact outcome_setInterface _ s
  case uac2FreqGetCur p =>
    exact outcome_reply (.uac2FreqGetCur p) p (leBytes 4 s.clk.sampleRate.toNat) s (by simp [leBytes]) (by simp [leBytes])
  case uac2FreqGetRange => exact outcome_reply _ _ _ s (by decide) (by decide)
  case uac2ValidGetCur p =>
    exact outcome_reply (.uac2ValidGetCur p) p [if s.clk.valid then 0x01 else 0x00] s (by simp) (by simp)
  case uac2CxGetCur p => exact outcome_reply (.uac2CxGetCur p) p [Config.params.clockSourceId] s (by simp) (by simp)
  case vendorKeepalive p =>
    exact outcome_reply (.vendorKeepalive p) p Config.params.keepaliveToken s (by simp) (by simp)
  case uac2EpAny => exact .ack
  case uac2AsAny => exact .ack
  case uac2FreqSetCur => exact .ack
  case uac2CxSetCur => exact .ack
  all_goals exact .stall

end Sys2Proof.Machine
end

