-- ==== Sys2Proof/Laws/Steps.lean ====
section
/-! SUPPORT. What one step can do, said once: which choice it takes, and what each event leaves
(46_event_dispatch.md R330 to R339, 60_exceptions.md R361). -/

namespace Sys2Proof.Machine

/-- A step takes a drawn choice no agent can make, or one agent's step in the state without that choice. -/
theorem step_cases (s t : State) (h : step s = .next t) :
    s.fault = none ∧
      ((chosen s = none ∧ t = { s with drawn := s.drawn + 1 }) ∨
        ∃ a c n, chosen s = some a ∧ act exec a { s with schedule := c, drawn := n } = .next t) := by
  unfold step frontEnd at h
  split at h
  · cases h
  · next hf =>
    refine ⟨hf, ?_⟩
    unfold chosen
    cases hs : s.schedule with
    | cons a rest =>
      have e : nextAction s = (some a, { s with schedule := rest }) := by simp [nextAction, hs]
      rw [e] at h ⊢
      exact .inr ⟨a, rest, s.drawn, rfl, h⟩
    | nil =>
      by_cases hp : producible (Config.drawnAction s.drawn) = true
      · have e : nextAction s = (some (Config.drawnAction s.drawn), { s with drawn := s.drawn + 1 }) := by
          simp [nextAction, hs, hp]
        rw [e] at h ⊢
        exact .inr ⟨_, s.schedule, s.drawn + 1, rfl, h⟩
      · have e : nextAction s = (none, { s with drawn := s.drawn + 1 }) := by simp [nextAction, hs, hp]
        rw [e] at h ⊢
        exact .inl ⟨rfl, by rw [← Host.Outcome.next.inj h, hs]⟩

/-- An event word is its kind and its endpoint. -/
theorem eventWord_fields (e : BitVec 8) : e = eventWord (eventKind e) (eventEp e) := by
  revert e
  decide

/-- An event word the block takes is one of the four events. -/
theorem event_cases (e : BitVec 8) (s t : State) (h : act exec (.event e) s = .next t) :
    (e = 0x00 ∧ exec .evReset s = .next t) ∨ (e = 0x10 ∧ exec .evRx s = .next t) ∨
      (∃ ep : BitVec 4, e = eventWord 2 ep ∧ ep.toNat < Config.params.numEp ∧ exec (.evIn ep) s = .next t) ∨
      (∃ ep : BitVec 4, e = eventWord 3 ep ∧ ep.toNat < Config.params.numEp ∧ exec (.evOut ep) s = .next t) := by
  have w := eventWord_fields e
  simp only [act, decodeEvent] at h
  split_ifs at h with h0 h0' h1 h1' h2 h2' h3 h3'
  · rw [h0, h0'] at w
    exact .inl ⟨w, h⟩
  · rw [h1, h1'] at w
    exact .inr (.inl ⟨w, h⟩)
  · rw [h2] at w
    exact .inr (.inr (.inl ⟨_, w, h2', h⟩))
  · rw [h3] at w
    exact .inr (.inr (.inr ⟨_, w, h3', h⟩))

/-- What the event `RxLevelReady` leaves: the head entry is popped, a setup entry runs its request or faults. -/
theorem evRx_cases (s t : State) (h : exec .evRx s = .next t) :
    (s.ev.rxq = [] ∧ t = s) ∨
      ∃ e q, s.ev.rxq = e :: q ∧
        ((e.kind = .setupRx ∧ e.bcnt = 8 ∧ e.data.length = 8 ∧ headSetup s = some (parsePacket e.data) ∧
            RequestOutcome (decodeSetup Config.params (parsePacket e.data)) (parsePacket e.data) s.popped t) ∨
          (e.kind = .setupRx ∧ (e.bcnt ≠ 8 ∨ e.data.length ≠ 8) ∧ t = { s.popped with fault := some .badSetupLength }) ∨
          (e.kind = .outDone ∧ t = { s.popped with ep0 := { s.ep0 with outArmed := true } }) ∨
          (e.kind ≠ .setupRx ∧ e.kind ≠ .outDone ∧ t = s.popped)) := by
  cases hq : s.ev.rxq with
  | nil =>
    refine .inl ⟨rfl, ?_⟩
    simp [exec, execEvRx, hq] at h
    exact h.symm
  | cons e q =>
    refine .inr ⟨e, q, rfl, ?_⟩
    simp only [exec, execEvRx, hq] at h
    cases hk : e.kind <;> simp only [hk] at h
    case setupRx =>
      unfold setupArm at h
      split at h
      · next hb => exact .inr (.inl ⟨rfl, hb, (Host.Outcome.next.inj h).symm⟩)
      · next hb =>
        simp only [not_or, not_not] at hb
        rw [runRequest_eq_exec _ _ (decodeSetup_isRequest _ _)] at h
        obtain ⟨u, hu, ho⟩ := request_cases _ _ (popRx s) (decodeSetup_isRequest Config.params (parsePacket e.data))
        rw [hu] at h
        cases h
        exact .inl ⟨rfl, hb.1, hb.2, by simp [headSetup, hq, hk], ho⟩
    case outDone => exact .inr (.inr (.inl ⟨rfl, (Host.Outcome.next.inj h).symm⟩))
    all_goals exact .inr (.inr (.inr ⟨by simp, by simp, (Host.Outcome.next.inj h).symm⟩))

/-- What the packet step of the data phase leaves (41_control_sequencer.md R155). -/
theorem sendStep_cases (s : State) :
    (s.ctl.sent < s.ctl.totalLen ∧
        sendStep s = { s with
          ctl := afterPacket (min (s.ctl.totalLen - s.ctl.sent) 64) s.ctl
          ep0 := { s.ep0 with tx := some (nextPacket s.ctl) } }) ∨
      (s.ctl.totalLen ≤ s.ctl.sent ∧ s.ctl.zlpPending = true ∧
        sendStep s = { s with ctl := { s.ctl with zlpPending := false }, ep0 := { s.ep0 with tx := some [] } }) ∨
      (s.ctl.totalLen ≤ s.ctl.sent ∧ s.ctl.zlpPending = false ∧
        sendStep s = { s with
          ctl := { s.ctl with phase := .statusOut }, ep0 := { s.ep0 with outArmed := true } }) := by
  by_cases h : s.ctl.totalLen - s.ctl.sent > 0
  · exact .inl ⟨by omega, if_pos h⟩
  · have h' : s.ctl.totalLen ≤ s.ctl.sent := by omega
    cases hz : s.ctl.zlpPending
    · exact .inr (.inr ⟨h', rfl, by unfold sendStep; rw [if_neg h, hz]; rfl⟩)
    · exact .inr (.inl ⟨h', rfl, by unfold sendStep; rw [if_neg h, hz]; rfl⟩)

/-- What EV_IN leaves (46_event_dispatch.md R338). -/
theorem evIn_cases (ep : BitVec 4) (s t : State) (h : exec (.evIn ep) s = .next t) :
    (inEnabled ep.toNat s = false ∧ t = s) ∨
      (inEnabled ep.toNat s = true ∧
        ((ep = 0 ∧ s.ctl.phase = .dataIn ∧ t = sendStep (setIepXfrc 0 false s)) ∨
          ((ep ≠ 0 ∨ s.ctl.phase ≠ .dataIn) ∧ t = setIepXfrc ep.toNat false s))) := by
  have h := (Host.Outcome.next.inj h).symm
  cases he : inEnabled ep.toNat s
  · exact .inl ⟨rfl, by simpa [he] using h⟩
  · refine .inr ⟨rfl, ?_⟩
    rw [if_pos he] at h
    subst h
    by_cases h0 : ep = 0
    · subst h0
      by_cases hp : s.ctl.phase = .dataIn
      · exact .inl ⟨rfl, hp, by simp [onInEp, onInDone0, hp]⟩
      · exact .inr ⟨.inr hp, by simp [onInEp, onInDone0, hp]⟩
    · refine .inr ⟨.inl h0, ?_⟩
      have : ep.toNat ≠ 0 := fun hc => h0 (BitVec.eq_of_toNat_eq (by simpa using hc))
      simp [onInEp, this]

/-- What EV_OUT leaves (46_event_dispatch.md R339). -/
theorem evOut_cases (ep : BitVec 4) (s t : State) (h : exec (.evOut ep) s = .next t) :
    (outEnabled ep.toNat s = false ∧ t = s) ∨
      (outEnabled ep.toNat s = true ∧
        ((flagAt s.ev.oepXfrc ep.toNat = true ∧ ep = 1 ∧
            ((∃ r, isoFault s = some r ∧ t = raiseFault r (setOepXfrc 1 false s)) ∨
              (isoFault s = none ∧ t = setOepStup 1 false (isoReceive Config.params (setOepXfrc 1 false s))))) ∨
          (flagAt s.ev.oepXfrc ep.toNat = true ∧ ep = 0 ∧ s.ctl.phase = .statusOut ∧
            t = setOepStup 0 false (setPhase .idle (setOepXfrc 0 false s))) ∨
          (flagAt s.ev.oepXfrc ep.toNat = true ∧ ep ≠ 1 ∧ (ep ≠ 0 ∨ s.ctl.phase ≠ .statusOut) ∧
            t = setOepStup ep.toNat false (setOepXfrc ep.toNat false s)) ∨
          (flagAt s.ev.oepXfrc ep.toNat = false ∧ t = setOepStup ep.toNat false s))) := by
  have h := (Host.Outcome.next.inj h).symm
  cases he : outEnabled ep.toNat s
  · exact .inl ⟨rfl, by simpa [he] using h⟩
  · refine .inr ⟨rfl, ?_⟩
    rw [if_pos he] at h
    subst h
    cases hx : flagAt s.ev.oepXfrc ep.toNat
    · exact .inr (.inr (.inr ⟨rfl, by simp [onOutEp, hx]⟩))
    · have hf : isoFault (setOepXfrc 1 false s) = isoFault s := rfl
      by_cases h0 : ep = 0
      · subst h0
        by_cases hp : s.ctl.phase = .statusOut
        · exact .inr (.inl ⟨rfl, rfl, hp, by simp at hx; simp [onOutEp, hx, onOutDone0, hp]⟩)
        · exact .inr (.inr (.inl ⟨rfl, by decide, .inr hp, by simp at hx; simp [onOutEp, hx, onOutDone0, hp]⟩))
      · have n0 : ep.toNat ≠ 0 := fun hc => h0 (BitVec.eq_of_toNat_eq (by simpa using hc))
        by_cases h1 : ep = 1
        · subst h1
          refine .inl ⟨rfl, rfl, ?_⟩
          simp at hx
          cases hi : isoFault s with
          | none => exact .inr ⟨rfl, by simp [onOutEp, hx, hf, hi]⟩
          | some r => exact .inl ⟨r, rfl, by simp [onOutEp, hx, hf, hi]⟩
        · have n1 : ep.toNat ≠ 1 := fun hc => h1 (BitVec.eq_of_toNat_eq (by simpa using hc))
          exact .inr (.inr (.inl ⟨rfl, h1, .inl h0, by simp [onOutEp, hx, n0, n1]⟩))

end Sys2Proof.Machine
end

