-- ==== Sys2Proof/Laws/DataPhase.lean ====
section
/-! SUPPORT. The host takes the loaded packet and the block handles its completion, as one law (60_exceptions.md R367,
46_event_dispatch.md R338), and runs one after the other. -/

namespace Sys2Proof.Machine

/-- The event word `0x20` is EV_IN of endpoint 0, whatever NUM_EP is. -/
theorem act_in0 (s : State) : act exec (.event 0x20) s = exec (.evIn 0) s := by
  have h : (0 : Nat) < Config.params.numEp := by have := Config.params_numEp_ge; omega
  have e : decodeEvent Config.params (0x20 : BitVec 8) = .ok (.evIn 0) := by
    have e1 : eventKind 0x20 = 2 := by decide
    have e2 : eventEp 0x20 = 0 := by decide
    simp only [decodeEvent, e1, e2]
    rw [if_neg (by decide), if_neg (by decide), if_pos trivial]
    exact if_pos h
  show (match decodeEvent Config.params (0x20 : BitVec 8) with
    | .ok i => exec i s
    | .error r => Host.Outcome.refused (Refusal.undecodable r)) = _
  rw [e]

/-- The state after the host took the packet `q` and its completion was cleared, before the continuation runs. -/
def State.taken (q : List Byte) (rest : List Action) (s : State) : State :=
  { s with
    schedule := rest
    hostLog := s.hostLog ++ [.pkt q]
    ep0 := { s.ep0 with tx := none }
    ev := { s.ev with iepXfrc := (s.ev.iepXfrc.set 0 true).set 0 false } }

/-- Two steps: HOST_IN0 takes the packet `q`, then EV_IN 0 clears the flag and runs the continuation. -/
theorem run_taken (s : State) (q : List Byte) (rest : List Action) (hf : s.fault = none) (hs : s.ep0.inStall = false)
    (hu : s.ep0.irqUnmasked = true) (hl : 0 < s.ev.iepXfrc.length) (ht : s.ep0.tx = some q)
    (hc : s.schedule = .hostIn0 :: .event 0x20 :: rest) :
    Host.Core.run Sys2Proof.core 2 s = .next (onInDone0 (s.taken q rest)) := by
  have h1 : step s = act exec .hostIn0 { s with schedule := .event 0x20 :: rest } := by
    simp [step, frontEnd, hf, nextAction, hc]
  have h2 : act exec .hostIn0 { s with schedule := .event 0x20 :: rest } = .next { s with
      schedule := .event 0x20 :: rest, hostLog := s.hostLog ++ [.pkt q], ep0 := { s.ep0 with tx := none }
      ev := { s.ev with iepXfrc := s.ev.iepXfrc.set 0 true } } := by
    simp [act, hostIn0, hs, ht, setIepXfrc, State.onEv, State.logHost, State.onEp0]
  have h3 : ∀ t : State, t.fault = none → t.schedule = .event 0x20 :: rest →
      step t = exec (.evIn 0) { t with schedule := rest } := by
    intro t h h'
    rw [← act_in0]
    simp [step, frontEnd, h, nextAction, h']
  have hflag : flagAt (s.ev.iepXfrc.set 0 true) 0 = true := by simp [flagAt, hl]
  rw [h2] at h1
  have h4 := h3 { s with
      schedule := .event 0x20 :: rest, hostLog := s.hostLog ++ [.pkt q], ep0 := { s.ep0 with tx := none }
      ev := { s.ev with iepXfrc := s.ev.iepXfrc.set 0 true } } hf rfl
  have h5 : exec (.evIn 0) { s with
      schedule := rest, hostLog := s.hostLog ++ [.pkt q], ep0 := { s.ep0 with tx := none }
      ev := { s.ev with iepXfrc := s.ev.iepXfrc.set 0 true } } = .next (onInDone0 (s.taken q rest)) := by
    simp [exec, execEvIn, inEnabled, hu, hflag, onInEp, setIepXfrc, State.onEv, State.taken]
  have h6 := h4.trans h5
  have e1 : Sys2Proof.core.step = step := rfl
  simp only [Host.Core.run, e1, h1, h6]

/-- A run of `k + m` steps is a run of `k` steps and then one of `m` steps. -/
theorem run_add (k m : Nat) (s : State) :
    Host.Core.run Sys2Proof.core (k + m) s =
      match Host.Core.run Sys2Proof.core k s with
      | .next t => Host.Core.run Sys2Proof.core m t
      | .fault r => .fault r
      | .refused r => .refused r := by
  induction k generalizing s with
  | zero => simp [Host.Core.run]
  | succ k ih =>
    rw [Nat.succ_add]
    simp only [Host.Core.run]
    cases Sys2Proof.core.step s with
    | next t => exact ih t
    | fault r => rfl
    | refused r => rfl

end Sys2Proof.Machine
end

