-- ==== Sys2Proof/Laws/Encoding.lean ====
section
/-! SUPPORT. The encodings bit by bit: the fields of the 64-bit word, what a row's mask and match say about them, and the
inverse of each way to lay a word out in bytes (30_encoding.md R111, R112, R119). -/

namespace Sys2Proof

/-- The fields of the 64-bit word are the packet's (30_encoding.md R111). -/
theorem SetupPacket.word_fields (p : SetupPacket) :
    p.word.extractLsb' 0 8 = p.bmRequestType ∧ p.word.extractLsb' 8 8 = p.bRequest ∧
      p.word.extractLsb' 16 16 = p.wValue ∧ p.word.extractLsb' 32 16 = p.wIndex ∧
      p.word.extractLsb' 48 16 = p.wLength := by
  refine ⟨?_, ?_, ?_, ?_, ?_⟩ <;>
  · apply BitVec.eq_of_getLsbD_eq
    intro i hi
    simp only [SetupPacket.word, BitVec.getLsbD_extractLsb', BitVec.getLsbD_append]
    split_ifs <;> first | omega | (simp only [hi, decide_true, Bool.true_and]; congr 1; omega)

/-- Two 64-bit words agree when their five fields do. -/
theorem word64_ext (v w : BitVec 64) :
    v = w ↔ v.extractLsb' 0 8 = w.extractLsb' 0 8 ∧ v.extractLsb' 8 8 = w.extractLsb' 8 8 ∧
      v.extractLsb' 16 16 = w.extractLsb' 16 16 ∧ v.extractLsb' 32 16 = w.extractLsb' 32 16 ∧
      v.extractLsb' 48 16 = w.extractLsb' 48 16 := by
  constructor
  · rintro rfl
    exact ⟨rfl, rfl, rfl, rfl, rfl⟩
  · rintro ⟨h1, h2, h3, h4, h5⟩
    apply BitVec.eq_of_getLsbD_eq
    intro i hi
    by_cases a : i < 8
    · have := congrArg (fun x => x.getLsbD i) h1
      simpa [BitVec.getLsbD_extractLsb', a] using this
    by_cases b : i < 16
    · have := congrArg (fun x => x.getLsbD (i - 8)) h2
      simpa [BitVec.getLsbD_extractLsb', show i - 8 < 8 by omega, show 8 + (i - 8) = i by omega] using this
    by_cases c : i < 32
    · have := congrArg (fun x => x.getLsbD (i - 16)) h3
      simpa [BitVec.getLsbD_extractLsb', show i - 16 < 16 by omega, show 16 + (i - 16) = i by omega] using this
    by_cases d : i < 48
    · have := congrArg (fun x => x.getLsbD (i - 32)) h4
      simpa [BitVec.getLsbD_extractLsb', show i - 32 < 16 by omega, show 32 + (i - 32) = i by omega] using this
    · have := congrArg (fun x => x.getLsbD (i - 48)) h5
      simpa [BitVec.getLsbD_extractLsb', show i - 48 < 16 by omega, show 48 + (i - 48) = i by omega] using this

/-- A row of the opcode table, field by field. -/
theorem SetupPacket.row_iff (p : SetupPacket) (m v : BitVec 64) :
    p.row m v = true ↔
      p.bmRequestType &&& m.extractLsb' 0 8 = v.extractLsb' 0 8 ∧
      p.bRequest &&& m.extractLsb' 8 8 = v.extractLsb' 8 8 ∧
      p.wValue &&& m.extractLsb' 16 16 = v.extractLsb' 16 16 ∧
      p.wIndex &&& m.extractLsb' 32 16 = v.extractLsb' 32 16 ∧
      p.wLength &&& m.extractLsb' 48 16 = v.extractLsb' 48 16 := by
  obtain ⟨h1, h2, h3, h4, h5⟩ := p.word_fields
  rw [SetupPacket.row, beq_iff_eq, word64_ext]
  simp only [BitVec.extractLsb'_and, h1, h2, h3, h4, h5]

/-- The mask of the `type` field in place (30_encoding.md R112). -/
theorem type_mask (b : BitVec 8) :
    (b &&& 0x60#8 = 0x00#8 ↔ b.extractLsb' 5 2 = 0#2) ∧ (b &&& 0x60#8 = 0x20#8 ↔ b.extractLsb' 5 2 = 1#2) ∧
      (b &&& 0x60#8 = 0x40#8 ↔ b.extractLsb' 5 2 = 2#2) ∧ (b &&& 0x60#8 = 0x60#8 ↔ b.extractLsb' 5 2 = 3#2) := by
  revert b
  decide

/-- The mask of `type` and `recipient` together, and the two whole request-type bytes of the class rows
(30_encoding.md R112). -/
theorem recipient_mask (b : BitVec 8) :
    (b &&& 0x7F#8 = 0x22#8 ↔ b.extractLsb' 5 2 = 1#2 ∧ b.extractLsb' 0 5 = 2#5) ∧
      (b &&& 0x7F#8 = 0x21#8 ↔ b.extractLsb' 5 2 = 1#2 ∧ b.extractLsb' 0 5 = 1#5) ∧
      (b = 0xA1#8 ↔ b.extractLsb' 5 2 = 1#2 ∧ b.extractLsb' 0 5 = 1#5 ∧ b.getLsbD 7 = true) ∧
      (b = 0x21#8 ↔ b.extractLsb' 5 2 = 1#2 ∧ b.extractLsb' 0 5 = 1#5 ∧ b.getLsbD 7 = false) := by
  revert b
  decide

/-- A 16-bit word is its high byte and its low byte. -/
theorem halves16 (v : BitVec 16) : v.extractLsb' 8 8 ++ v.extractLsb' 0 8 = v := by
  apply BitVec.eq_of_getLsbD_eq
  intro i hi
  simp only [BitVec.getLsbD_append, BitVec.getLsbD_extractLsb']
  interval_cases i <;> simp

/-- The two bytes of a 16-bit word put together again (20_memory.md R83). -/
theorem le16_halves (v : BitVec 16) : le16 (v.extractLsb' 0 8) (v.extractLsb' 8 8) = v := halves16 v

/-- Two 16-bit words agree when their bytes do. -/
theorem word16_ext (v w : BitVec 16) :
    v = w ↔ v.extractLsb' 8 8 = w.extractLsb' 8 8 ∧ v.extractLsb' 0 8 = w.extractLsb' 0 8 := by
  constructor
  · rintro rfl
    exact ⟨rfl, rfl⟩
  · rintro ⟨h1, h2⟩
    rw [← halves16 v, ← halves16 w, h1, h2]

/-- A row that names the high byte of a 16-bit field. -/
theorem high_mask (w v : BitVec 16) :
    w &&& 0xFF00#16 = v ↔ w.extractLsb' 8 8 = v.extractLsb' 8 8 ∧ 0#8 = v.extractLsb' 0 8 := by
  rw [word16_ext, BitVec.extractLsb'_and, BitVec.extractLsb'_and]
  have h1 : (0xFF00#16).extractLsb' 8 8 = BitVec.allOnes 8 := rfl
  have h0 : (0xFF00#16).extractLsb' 0 8 = 0#8 := rfl
  rw [h1, h0, BitVec.and_allOnes, BitVec.and_zero]

/-- A row that names the low byte of a 16-bit field. -/
theorem low_mask (w v : BitVec 16) :
    w &&& 0x00FF#16 = v ↔ 0#8 = v.extractLsb' 8 8 ∧ w.extractLsb' 0 8 = v.extractLsb' 0 8 := by
  rw [word16_ext, BitVec.extractLsb'_and, BitVec.extractLsb'_and]
  have h1 : (0x00FF#16).extractLsb' 8 8 = 0#8 := rfl
  have h0 : (0x00FF#16).extractLsb' 0 8 = BitVec.allOnes 8 := rfl
  rw [h1, h0, BitVec.and_allOnes, BitVec.and_zero]

/-- The 8 wire bytes of a packet give the packet back (30_encoding.md R111). -/
theorem parsePacket_bytes (p : SetupPacket) : parsePacket p.bytes = p := by
  simp [parsePacket, SetupPacket.bytes, byteAt, le16_halves]

/-- The little-endian bytes of a 32-bit number are its four byte fields (00_scope.md R8). -/
theorem leBytes_four (v : BitVec 32) :
    leBytes 4 v.toNat = [v.extractLsb' 0 8, v.extractLsb' 8 8, v.extractLsb' 16 8, v.extractLsb' 24 8] := by
  have h : ∀ k, BitVec.ofNat 8 (v.toNat / 2 ^ k) = v.extractLsb' k 8 := by
    intro k
    apply BitVec.eq_of_toNat_eq
    simp [Nat.shiftRight_eq_div_pow]
  simp only [leBytes, Nat.div_div_eq_div_mul]
  rw [← h 0, ← h 8, ← h 16, ← h 24]
  simp

/-- The 4 bytes of a receive-status word give the word back. -/
theorem word32_leBytes (w : BitVec 32) : word32 (leBytes 4 w.toNat) = w := by
  rw [leBytes_four]
  apply BitVec.eq_of_getLsbD_eq
  intro i hi
  simp only [word32, byteAt, List.getD_cons_zero, List.getD_cons_succ, BitVec.getLsbD_append, BitVec.getLsbD_extractLsb']
  interval_cases i <;> simp

/-- The fields of a receive-status word that was put together from them (30_encoding.md R119). -/
theorem rxWord_fields (k : BitVec 4) (st : RxStatus) : rxPktsts (rxWord k st) = k ∧ rxFields (rxWord k st) = st := by
  obtain ⟨e, b, d, f⟩ := st
  have h : ∀ (n lo : Nat) (x : BitVec n),
      (∀ i, i < n → (rxWord k ⟨e, b, d, f⟩).getLsbD (lo + i) = x.getLsbD i) →
        (rxWord k ⟨e, b, d, f⟩).extractLsb' lo n = x := by
    intro n lo x hx
    apply BitVec.eq_of_getLsbD_eq
    intro i hi
    rw [BitVec.getLsbD_extractLsb', hx i hi]
    simp [hi]
  have e1 := h 4 17 k (by intro i hi; simp only [rxWord, BitVec.getLsbD_append]; split_ifs <;> first | omega | (congr 1; omega))
  have e2 := h 4 0 e (by intro i hi; simp only [rxWord, BitVec.getLsbD_append]; split_ifs <;> first | omega | (congr 1; omega))
  have e3 := h 11 4 b (by intro i hi; simp only [rxWord, BitVec.getLsbD_append]; split_ifs <;> first | omega | (congr 1; omega))
  have e4 := h 2 15 d (by intro i hi; simp only [rxWord, BitVec.getLsbD_append]; split_ifs <;> first | omega | (congr 1; omega))
  have e5 := h 4 21 f (by intro i hi; simp only [rxWord, BitVec.getLsbD_append]; split_ifs <;> first | omega | (congr 1; omega))
  exact ⟨e1, by rw [rxFields, e2, e3, e4, e5]⟩

end Sys2Proof
end

