-- ==== Sys2Proof/Laws/PerInstr.lean ====
section
/-! SUPPORT. Per instruction: the encoder lays out as many bytes as the instruction's format has (30_encoding.md R110,
R119, R120, R124). -/

namespace Sys2Proof.Laws.EncodedLength

/-- The encoding of `i` has the length of its format. -/
def Statement (i : Instr) : Prop := (encode i).length = i.format.bytes

theorem getStatus (p : SetupPacket) : Statement (.getStatus p) := rfl
theorem setAddress (p : SetupPacket) : Statement (.setAddress p) := rfl
theorem getDescriptorDevice (p : SetupPacket) : Statement (.getDescriptorDevice p) := rfl
theorem getDescriptorConfiguration (p : SetupPacket) : Statement (.getDescriptorConfiguration p) := rfl
theorem getDescriptorString (p : SetupPacket) : Statement (.getDescriptorString p) := rfl
theorem getDescriptorQualifier (p : SetupPacket) : Statement (.getDescriptorQualifier p) := rfl
theorem getDescriptorOther (p : SetupPacket) : Statement (.getDescriptorOther p) := rfl
theorem getConfiguration (p : SetupPacket) : Statement (.getConfiguration p) := rfl
theorem setConfiguration (p : SetupPacket) : Statement (.setConfiguration p) := rfl
theorem setInterface (p : SetupPacket) : Statement (.setInterface p) := rfl
theorem stdUnsupported (p : SetupPacket) : Statement (.stdUnsupported p) := rfl
theorem uac2EpAny (p : SetupPacket) : Statement (.uac2EpAny p) := rfl
theorem uac2BadRecipient (p : SetupPacket) : Statement (.uac2BadRecipient p) := rfl
theorem uac2AsAny (p : SetupPacket) : Statement (.uac2AsAny p) := rfl
theorem uac2BadInterface (p : SetupPacket) : Statement (.uac2BadInterface p) := rfl
theorem uac2FreqGetCur (p : SetupPacket) : Statement (.uac2FreqGetCur p) := rfl
theorem uac2FreqGetRange (p : SetupPacket) : Statement (.uac2FreqGetRange p) := rfl
theorem uac2FreqSetCur (p : SetupPacket) : Statement (.uac2FreqSetCur p) := rfl
theorem uac2FreqOther (p : SetupPacket) : Statement (.uac2FreqOther p) := rfl
theorem uac2ValidGetCur (p : SetupPacket) : Statement (.uac2ValidGetCur p) := rfl
theorem uac2ValidSetCur (p : SetupPacket) : Statement (.uac2ValidSetCur p) := rfl
theorem uac2ValidOther (p : SetupPacket) : Statement (.uac2ValidOther p) := rfl
theorem uac2CsBadSelector (p : SetupPacket) : Statement (.uac2CsBadSelector p) := rfl
theorem uac2CxGetCur (p : SetupPacket) : Statement (.uac2CxGetCur p) := rfl
theorem uac2CxSetCur (p : SetupPacket) : Statement (.uac2CxSetCur p) := rfl
theorem uac2CxOther (p : SetupPacket) : Statement (.uac2CxOther p) := rfl
theorem uac2CxBadSelector (p : SetupPacket) : Statement (.uac2CxBadSelector p) := rfl
theorem uac2AcBadEntity (p : SetupPacket) : Statement (.uac2AcBadEntity p) := rfl
theorem vendorKeepalive (p : SetupPacket) : Statement (.vendorKeepalive p) := rfl
theorem vendorUnsupported (p : SetupPacket) : Statement (.vendorUnsupported p) := rfl
theorem reservedType (p : SetupPacket) : Statement (.reservedType p) := rfl
theorem evReset : Statement (.evReset) := rfl
theorem evRx : Statement (.evRx) := rfl
theorem evIn (ep : BitVec 4) : Statement (.evIn ep) := rfl
theorem evOut (ep : BitVec 4) : Statement (.evOut ep) := rfl
theorem rxOutRx (st : RxStatus) : Statement (.rxOutRx st) := rfl
theorem rxOutDone (st : RxStatus) : Statement (.rxOutDone st) := rfl
theorem rxSetupDone (st : RxStatus) : Statement (.rxSetupDone st) := rfl
theorem rxSetupRx (st : RxStatus) : Statement (.rxSetupRx st) := rfl
theorem rxOther (pktsts : BitVec 4) (st : RxStatus) : Statement (.rxOther pktsts st) := rfl

end Sys2Proof.Laws.EncodedLength
end

