-- ==== Sys2Proof/Tests/Slice0.lean ====
section
/-! SUPPORT. The model's own tests: parameter sets and ill-formed instructions that are refused, words written out from the
spec's encodings, one-step checks against the vectors of 95_test_vectors.md, and for every statement with hypotheses a
state and operands that meet them. Expected values are the spec's, never the model's own answers. -/

-- the tests evaluate a descriptor of 127 bytes
set_option maxRecDepth 4096

namespace Sys2Proof.Tests

open Sys2Proof.Machine

/-- A configuration descriptor written out from the list of 43_descriptor_server.md R232 with the layouts of USB 2.0 and
UAC2, with the class-specific descriptor of the streaming interface. -/
def exampleConfiguration : List Byte :=
  -- header, interface association
  [9, 0x02, 127, 0, 2, 1, 0, 0xC0, 0x32] ++ [8, 0x0B, 0, 2, 1, 0, 0x20, 0] ++
  -- audio control: interface 0, header, clock source, input terminal, output terminal
  [9, 0x04, 0, 0, 0, 1, 1, 0x20, 0] ++ [9, 0x24, 0x01, 0, 2, 1, 46, 0, 0] ++ [8, 0x24, 0x0A, 0x10, 1, 5, 0, 0] ++
  [17, 0x24, 0x02, 1, 1, 1, 0, 0x10, 2, 3, 0, 0, 0, 0, 0, 0, 0] ++ [12, 0x24, 0x03, 2, 1, 3, 0, 1, 0x10, 0, 0, 0] ++
  -- audio streaming: interface 1, alternates 0 and 1
  [9, 0x04, 1, 0, 0, 1, 2, 0x20, 0] ++ [9, 0x04, 1, 1, 1, 1, 2, 0x20, 0] ++
  [16, 0x24, 0x01, 1, 0, 1, 1, 0, 0, 0, 2, 3, 0, 0, 0, 0] ++
  -- format type, endpoint 0x01 OUT of 196 bytes and interval 1, its class-specific descriptor
  [6, 0x24, 0x02, 1, 2, 16] ++ [7, 0x05, 0x01, 0x09, 196, 0, 1] ++ [8, 0x25, 0x01, 0, 0, 0, 0, 0]

/-- The example parameter values of 95_test_vectors.md, with short tables in place of its symbolic ones. -/
def exampleParams : Params :=
  { cfgDesc := exampleConfiguration
    devDesc := [18, 1, 0, 2, 0xEF, 2, 1, 64, 1, 2, 3, 4, 5, 6, 7, 8, 9, 1]
    qualDesc := [10, 6, 0, 2, 0xEF, 2, 1, 64, 1, 0]
    strDesc := { language := [4, 3, 9, 4], manufacturer := [10, 3, 1, 2, 3, 4, 5, 6, 7, 8, 9, 10], product := [2, 3] }
    clockSourceId := 0x10
    clockSelectorId := 0x11
    keepaliveToken := [1, 2, 3, 4]
    bufSamples := 196, ringCap := 4, tsBits := 32, numEp := 4 }

/-- The same with buffers of 12 samples, for tests that write few samples. -/
def smallParams : Params := { exampleParams with bufSamples := 12 }

/-- `SETUP bm bR vvvv iiii llll` (30_encoding.md R125). -/
def packet (bm br : BitVec 8) (v i l : BitVec 16) : SetupPacket :=
  { bmRequestType := bm, bRequest := br, wValue := v, wIndex := i, wLength := l }

/-- "Ready": power-on, then HOST_RESET and EV_RESET (95_test_vectors.md, head). -/
def ready : State :=
  { State.powerOn smallParams with
    ep0 := { inStall := false, outStall := false, outArmed := true, tx := none, irqUnmasked := true } }

/-- "Ready" in the data phase of `data`, `sent` of its bytes sent. -/
def inData (data : List Byte) (sent : Nat) : State :=
  ready.onCtl fun c => { c with phase := .dataIn, buf := some data, totalLen := data.length, sent := sent }

/-- One observation of the state a meaning or a step answers. -/
def got {α : Type} (f : State → α) : Result → Option α
  | .next s => some (f s)
  | .fault _ => none
  | .refused _ => none

/-- The end of a stalled request: both stall bits and the phase (95_test_vectors.md 2.3). -/
def stalled (s : State) : Bool × Bool × Phase := (s.ep0.inStall, s.ep0.outStall, s.ctl.phase)

/-- The end of an ACKed request: the packet in the slot and the phase (95_test_vectors.md 2.3). -/
def acked (s : State) : Option (List Byte) × Phase := (s.ep0.tx, s.ctl.phase)

/-- The reply of a request: the packet in the slot, the phase, `total_len` and `sent`. -/
def replied (s : State) : Option (List Byte) × Phase × Nat × Nat := (s.ep0.tx, s.ctl.phase, s.ctl.totalLen, s.ctl.sent)

/-- `n` bytes 0, 1, 2, … -/
def counting (n : Nat) : List Byte := (List.range n).map (BitVec.ofNat 8)

/-! Parameter sets (00_scope.md R6, 43_descriptor_server.md R231 to R233, 70_reset_and_hazards.md R412, R413). -/

theorem test_params_example : exampleParams.Wf ∧ smallParams.Wf := by decide

theorem test_params_ring_not_power_of_two :
    ¬ Params.Wf { exampleParams with ringCap := 3 } ∧ ¬ Params.Wf { exampleParams with ringCap := 0 } := by decide

theorem test_params_odd_buffer :
    ¬ Params.Wf { exampleParams with bufSamples := 5 } ∧ ¬ Params.Wf { exampleParams with bufSamples := 0 } := by decide

theorem test_params_total_length : ¬ Params.Wf { exampleParams with cfgDesc := exampleConfiguration.set 2 126 } := by
  decide

theorem test_params_short_configuration :
    ¬ Params.Wf { exampleParams with cfgDesc := [4, 2, 4, 0] } ∧
    ¬ Params.Wf { exampleParams with cfgDesc := [9, 2, 9, 0, 2, 1, 0, 0x80, 50] } := by decide

/-- The shape of R232: the parts in another order (the two terminals swapped), a part missing (the last
one), a declared length that is no part's size, endpoint 0x81, 192 bytes, interval 2, one channel, 24 bits, and of the
streaming interface format type 2, PCM8 (bit 1), PCM with another format. -/
theorem test_params_configuration_shape :
    ([ (exampleConfiguration.take 43) ++ (exampleConfiguration.drop 60).take 12 ++ (exampleConfiguration.drop 43).take 17 ++
         exampleConfiguration.drop 72,
       (exampleConfiguration.take 119).set 2 119, exampleConfiguration.set 126 1 |>.set 119 9,
       exampleConfiguration.set 114 0x81, exampleConfiguration.set 116 192, exampleConfiguration.set 118 2,
       exampleConfiguration.set 51 1, exampleConfiguration.set 111 24,
       exampleConfiguration.set 95 2, exampleConfiguration.set 96 2, exampleConfiguration.set 99 0x80 ] : List (List Byte)).all
      (fun d => !configurationShape 0 1 1 196 d) = true ∧ configurationShape 0 1 1 196 exampleConfiguration = true := by
  decide

theorem test_params_device_length : ¬ Params.Wf { exampleParams with devDesc := [17, 1] } := by decide

theorem test_params_string_length :
    ¬ Params.Wf { exampleParams with strDesc := { language := [5, 3, 9, 4], manufacturer := [2, 3], product := [2, 3] } } ∧
    ¬ Params.Wf { exampleParams with strDesc := { language := [2, 3], manufacturer := [], product := [2, 3] } } := by decide

theorem test_params_equal_ids : ¬ Params.Wf { exampleParams with clockSelectorId := 0x10 } := by decide

theorem test_params_token : ¬ Params.Wf { exampleParams with keepaliveToken := [1, 2, 3] } := by decide

theorem test_params_widths :
    ¬ Params.Wf { exampleParams with tsBits := 0 } ∧ ¬ Params.Wf { exampleParams with numEp := 1 } ∧
    ¬ Params.Wf { exampleParams with qualDesc := [] } := ⟨by decide, by decide, by decide⟩

/-! Ill-formed instructions: for each row an operand that breaks one of its checks. -/

theorem test_wf_standard :
    ([ .getStatus (packet 0x20 0x00 0 0 0), .getStatus (packet 0x80 0x01 0 0 0),
       .setAddress (packet 0x00 0x06 0 0 0), .setAddress (packet 0x40 0x05 0 0 0),
       .getDescriptorDevice (packet 0x80 0x06 0x0200 0 0), .getDescriptorDevice (packet 0x80 0x08 0x0100 0 0),
       .getDescriptorConfiguration (packet 0x80 0x06 0x0100 0 0),
       .getDescriptorString (packet 0x80 0x06 0x0303 0 0), .getDescriptorString (packet 0x80 0x06 0x0102 0 0),
       .getDescriptorQualifier (packet 0x80 0x06 0x0700 0 0),
       .getDescriptorOther (packet 0x80 0x06 0x0302 0 0), .getDescriptorOther (packet 0x80 0x06 0x0600 0 0),
       .getConfiguration (packet 0x80 0x09 0 0 0), .setConfiguration (packet 0x00 0x08 0 0 0),
       .setInterface (packet 0x01 0x0A 0 0 0), .stdUnsupported (packet 0x80 0x0B 0 0 0),
       .stdUnsupported (packet 0x40 0x0A 0 0 0) ] : List Instr).all (fun i => !i.wf exampleParams) = true := by decide

theorem test_wf_class :
    ([ .uac2EpAny (packet 0x21 0x01 0 0 0), .uac2BadRecipient (packet 0x21 0x01 0 0 0),
       .uac2BadRecipient (packet 0x00 0x01 0 0 0), .uac2AsAny (packet 0x21 0x01 0 0x0000 0),
       .uac2AsAny (packet 0x22 0x01 0 0x0001 0), .uac2BadInterface (packet 0x21 0x01 0 0x0001 0),
       .uac2BadInterface (packet 0x22 0x01 0 0x0002 0) ] : List Instr).all (fun i => !i.wf exampleParams) = true := by decide

theorem test_wf_clock_source :
    ([ .uac2FreqGetCur (packet 0xA1 0x01 0x0100 0x1100 0), .uac2FreqGetCur (packet 0x21 0x01 0x0100 0x1000 0),
       .uac2FreqGetRange (packet 0xA1 0x02 0x0100 0x1100 0), .uac2FreqGetRange (packet 0xA1 0x01 0x0100 0x1000 0),
       .uac2FreqSetCur (packet 0x21 0x01 0x0100 0x1100 0), .uac2FreqSetCur (packet 0xA1 0x01 0x0100 0x1000 0),
       .uac2FreqOther (packet 0x21 0x02 0x0100 0x1100 0), .uac2FreqOther (packet 0xA1 0x02 0x0100 0x1000 0),
       .uac2FreqOther (packet 0x21 0x02 0x0200 0x1000 0),
       .uac2ValidGetCur (packet 0xA1 0x01 0x0100 0x1000 0), .uac2ValidGetCur (packet 0xA1 0x01 0x0200 0x1100 0),
       .uac2ValidSetCur (packet 0x21 0x01 0x0100 0x1000 0), .uac2ValidSetCur (packet 0x21 0x01 0x0200 0x1100 0),
       .uac2ValidOther (packet 0xA1 0x01 0x0200 0x1000 0), .uac2ValidOther (packet 0xA1 0x02 0x0200 0x1100 0),
       .uac2ValidOther (packet 0xA1 0x02 0x0100 0x1000 0),
       .uac2CsBadSelector (packet 0xA1 0x01 0x0200 0x1000 0), .uac2CsBadSelector (packet 0xA1 0x01 0x0300 0x1100 0),
       .uac2CsBadSelector (packet 0xA1 0x01 0x0300 0x1001 0) ] : List Instr).all (fun i => !i.wf exampleParams) = true := by
  decide

theorem test_wf_clock_selector :
    ([ .uac2CxGetCur (packet 0xA1 0x01 0x0100 0x1000 0), .uac2CxGetCur (packet 0xA1 0x01 0x0200 0x1100 0),
       .uac2CxSetCur (packet 0x21 0x01 0x0100 0x1000 0), .uac2CxSetCur (packet 0xA1 0x01 0x0100 0x1100 0),
       .uac2CxOther (packet 0xA1 0x01 0x0100 0x1100 0), .uac2CxOther (packet 0xA1 0x02 0x0100 0x1000 0),
       .uac2CxOther (packet 0xA1 0x02 0x0200 0x1100 0),
       .uac2CxBadSelector (packet 0xA1 0x01 0x0100 0x1100 0), .uac2CxBadSelector (packet 0xA1 0x01 0x0200 0x1000 0),
       .uac2CxBadSelector (packet 0xA2 0x01 0x0200 0x1100 0),
       .uac2AcBadEntity (packet 0xA1 0x01 0x0100 0x1100 0), .uac2AcBadEntity (packet 0xA1 0x01 0x0100 0x1000 0),
       .uac2AcBadEntity (packet 0xA1 0x01 0x0100 0x2001 0) ] : List Instr).all (fun i => !i.wf exampleParams) = true := by
  decide

theorem test_wf_vendor :
    ([ .vendorKeepalive (packet 0xC0 0x02 0 0 0), .vendorKeepalive (packet 0x80 0x01 0 0 0),
       .vendorUnsupported (packet 0xC0 0x01 0 0 0), .vendorUnsupported (packet 0x80 0x02 0 0 0),
       .reservedType (packet 0xC0 0x00 0 0 0) ] : List Instr).all (fun i => !i.wf exampleParams) = true := by decide

theorem test_wf_events_and_status :
    ([ .evIn 4, .evOut 4, .rxOther 2 default, .rxOther 3 default, .rxOther 4 default, .rxOther 6 default ] :
      List Instr).all (fun i => !i.wf exampleParams) = true := by decide

/-! Decoding: words written out from the spec's encodings. -/

/-- 95_test_vectors.md V-C1, V-C8. -/
theorem test_decode_get_descriptor_device :
    decode exampleParams .setup [0x80, 0x06, 0x00, 0x01, 0x00, 0x00, 0x40, 0x00] =
      .ok (.getDescriptorDevice (packet 0x80 0x06 0x0100 0x0000 0x0040)) ∧
    decode exampleParams .setup [0x00, 0x06, 0x05, 0x01, 0x00, 0x00, 0x12, 0x00] =
      .ok (.getDescriptorDevice (packet 0x00 0x06 0x0105 0x0000 0x0012)) := by decide

/-- 95_test_vectors.md V-C2. -/
theorem test_decode_get_descriptor_configuration :
    decode exampleParams .setup [0x80, 0x06, 0x00, 0x02, 0x00, 0x00, 0xFF, 0x00] =
      .ok (.getDescriptorConfiguration (packet 0x80 0x06 0x0200 0x0000 0x00FF)) := by decide

/-- 95_test_vectors.md V-C3. -/
theorem test_decode_get_descriptor_string :
    decode exampleParams .setup [0x80, 0x06, 0x02, 0x03, 0x09, 0x04, 0xFF, 0x00] =
      .ok (.getDescriptorString (packet 0x80 0x06 0x0302 0x0409 0x00FF)) := by decide

/-- 95_test_vectors.md V-C4, V-C6, V-C7. -/
theorem test_decode_get_descriptor_other :
    decode exampleParams .setup [0x80, 0x06, 0x03, 0x03, 0x09, 0x04, 0xFF, 0x00] =
      .ok (.getDescriptorOther (packet 0x80 0x06 0x0303 0x0409 0x00FF)) ∧
    decode exampleParams .setup [0x80, 0x06, 0x00, 0x04, 0x00, 0x00, 0x09, 0x00] =
      .ok (.getDescriptorOther (packet 0x80 0x06 0x0400 0x0000 0x0009)) ∧
    decode exampleParams .setup [0x80, 0x06, 0x00, 0x07, 0x00, 0x00, 0x09, 0x00] =
      .ok (.getDescriptorOther (packet 0x80 0x06 0x0700 0x0000 0x0009)) := by decide

/-- 95_test_vectors.md V-C5. -/
theorem test_decode_get_descriptor_qualifier :
    decode exampleParams .setup [0x80, 0x06, 0x00, 0x06, 0x00, 0x00, 0x0A, 0x00] =
      .ok (.getDescriptorQualifier (packet 0x80 0x06 0x0600 0x0000 0x000A)) := by decide

/-- 95_test_vectors.md V-C9, V-C10. -/
theorem test_decode_get_status :
    decode exampleParams .setup [0x80, 0x00, 0x00, 0x00, 0x00, 0x00, 0x02, 0x00] =
      .ok (.getStatus (packet 0x80 0x00 0x0000 0x0000 0x0002)) ∧
    decode exampleParams .setup [0x82, 0x00, 0x00, 0x00, 0x81, 0x00, 0x02, 0x00] =
      .ok (.getStatus (packet 0x82 0x00 0x0000 0x0081 0x0002)) := by decide

/-- 95_test_vectors.md V-C11. -/
theorem test_decode_set_address :
    decode exampleParams .setup [0x00, 0x05, 0x05, 0x00, 0x00, 0x00, 0x00, 0x00] =
      .ok (.setAddress (packet 0x00 0x05 0x0005 0x0000 0x0000)) := by decide

/-- 95_test_vectors.md V-C12. -/
theorem test_decode_std_unsupported :
    decode exampleParams .setup [0x80, 0x0A, 0x00, 0x00, 0x01, 0x00, 0x01, 0x00] =
      .ok (.stdUnsupported (packet 0x80 0x0A 0x0000 0x0001 0x0001)) := by decide

/-- 95_test_vectors.md V-C13. -/
theorem test_decode_uac2_freq_get_cur :
    decode exampleParams .setup [0xA1, 0x01, 0x00, 0x01, 0x00, 0x10, 0x04, 0x00] =
      .ok (.uac2FreqGetCur (packet 0xA1 0x01 0x0100 0x1000 0x0004)) := by decide

/-- 95_test_vectors.md V-C14. -/
theorem test_decode_uac2_freq_get_range :
    decode exampleParams .setup [0xA1, 0x02, 0x00, 0x01, 0x00, 0x10, 0x0E, 0x00] =
      .ok (.uac2FreqGetRange (packet 0xA1 0x02 0x0100 0x1000 0x000E)) := by decide

/-- 95_test_vectors.md V-C15. -/
theorem test_decode_uac2_freq_set_cur :
    decode exampleParams .setup [0x21, 0x01, 0x00, 0x01, 0x00, 0x10, 0x04, 0x00] =
      .ok (.uac2FreqSetCur (packet 0x21 0x01 0x0100 0x1000 0x0004)) := by decide

/-- 95_test_vectors.md V-C16. -/
theorem test_decode_uac2_freq_other :
    decode exampleParams .setup [0x21, 0x02, 0x00, 0x01, 0x00, 0x10, 0x0E, 0x00] =
      .ok (.uac2FreqOther (packet 0x21 0x02 0x0100 0x1000 0x000E)) := by decide

/-- 95_test_vectors.md V-C17. -/
theorem test_decode_uac2_valid_get_cur :
    decode exampleParams .setup [0xA1, 0x01, 0x00, 0x02, 0x00, 0x10, 0x01, 0x00] =
      .ok (.uac2ValidGetCur (packet 0xA1 0x01 0x0200 0x1000 0x0001)) := by decide

/-- 95_test_vectors.md V-C18. -/
theorem test_decode_uac2_valid_set_cur :
    decode exampleParams .setup [0x21, 0x01, 0x00, 0x02, 0x00, 0x10, 0x01, 0x00] =
      .ok (.uac2ValidSetCur (packet 0x21 0x01 0x0200 0x1000 0x0001)) := by decide

/-- 95_test_vectors.md V-C19. -/
theorem test_decode_uac2_valid_other :
    decode exampleParams .setup [0xA1, 0x02, 0x00, 0x02, 0x00, 0x10, 0x02, 0x00] =
      .ok (.uac2ValidOther (packet 0xA1 0x02 0x0200 0x1000 0x0002)) := by decide

/-- 95_test_vectors.md V-C20. -/
theorem test_decode_uac2_cs_bad_selector :
    decode exampleParams .setup [0xA1, 0x01, 0x00, 0x03, 0x00, 0x10, 0x01, 0x00] =
      .ok (.uac2CsBadSelector (packet 0xA1 0x01 0x0300 0x1000 0x0001)) := by decide

/-- 95_test_vectors.md V-C21. -/
theorem test_decode_uac2_cx_get_cur :
    decode exampleParams .setup [0xA1, 0x01, 0x00, 0x01, 0x00, 0x11, 0x01, 0x00] =
      .ok (.uac2CxGetCur (packet 0xA1 0x01 0x0100 0x1100 0x0001)) := by decide

/-- 95_test_vectors.md V-C22. -/
theorem test_decode_uac2_cx_set_cur :
    decode exampleParams .setup [0x21, 0x01, 0x00, 0x01, 0x00, 0x11, 0x01, 0x00] =
      .ok (.uac2CxSetCur (packet 0x21 0x01 0x0100 0x1100 0x0001)) := by decide

/-- 95_test_vectors.md V-C23. -/
theorem test_decode_uac2_cx_other :
    decode exampleParams .setup [0xA1, 0x02, 0x00, 0x01, 0x00, 0x11, 0x02, 0x00] =
      .ok (.uac2CxOther (packet 0xA1 0x02 0x0100 0x1100 0x0002)) := by decide

/-- 95_test_vectors.md V-C24. -/
theorem test_decode_uac2_cx_bad_selector :
    decode exampleParams .setup [0xA1, 0x01, 0x00, 0x02, 0x00, 0x11, 0x01, 0x00] =
      .ok (.uac2CxBadSelector (packet 0xA1 0x01 0x0200 0x1100 0x0001)) := by decide

/-- 95_test_vectors.md V-C25. -/
theorem test_decode_uac2_ac_bad_entity :
    decode exampleParams .setup [0xA1, 0x01, 0x00, 0x01, 0x00, 0x20, 0x04, 0x00] =
      .ok (.uac2AcBadEntity (packet 0xA1 0x01 0x0100 0x2000 0x0004)) := by decide

/-- 95_test_vectors.md V-C26. -/
theorem test_decode_uac2_as_any :
    decode exampleParams .setup [0xA1, 0x01, 0x00, 0x01, 0x01, 0x10, 0x04, 0x00] =
      .ok (.uac2AsAny (packet 0xA1 0x01 0x0100 0x1001 0x0004)) := by decide

/-- 95_test_vectors.md V-C27. -/
theorem test_decode_uac2_bad_interface :
    decode exampleParams .setup [0xA1, 0x01, 0x00, 0x01, 0x02, 0x10, 0x04, 0x00] =
      .ok (.uac2BadInterface (packet 0xA1 0x01 0x0100 0x1002 0x0004)) := by decide

/-- 95_test_vectors.md V-C28. -/
theorem test_decode_uac2_ep_any :
    decode exampleParams .setup [0x22, 0x01, 0x00, 0x01, 0x01, 0x00, 0x03, 0x00] =
      .ok (.uac2EpAny (packet 0x22 0x01 0x0100 0x0001 0x0003)) := by decide

/-- 95_test_vectors.md V-C29. -/
theorem test_decode_uac2_bad_recipient :
    decode exampleParams .setup [0xA0, 0x01, 0x00, 0x01, 0x00, 0x10, 0x04, 0x00] =
      .ok (.uac2BadRecipient (packet 0xA0 0x01 0x0100 0x1000 0x0004)) := by decide

/-- 95_test_vectors.md V-C30, V-C31. -/
theorem test_decode_vendor_keepalive :
    decode exampleParams .setup [0xC0, 0x01, 0x00, 0x00, 0x00, 0x00, 0x04, 0x00] =
      .ok (.vendorKeepalive (packet 0xC0 0x01 0x0000 0x0000 0x0004)) ∧
    decode exampleParams .setup [0x40, 0x01, 0x00, 0x00, 0x00, 0x00, 0x04, 0x00] =
      .ok (.vendorKeepalive (packet 0x40 0x01 0x0000 0x0000 0x0004)) := by decide

/-- 95_test_vectors.md V-C32. -/
theorem test_decode_vendor_unsupported :
    decode exampleParams .setup [0xC0, 0x02, 0x00, 0x00, 0x00, 0x00, 0x04, 0x00] =
      .ok (.vendorUnsupported (packet 0xC0 0x02 0x0000 0x0000 0x0004)) := by decide

/-- 95_test_vectors.md V-C33. -/
theorem test_decode_reserved_type :
    decode exampleParams .setup [0xE0, 0x00, 0x00, 0x00, 0x00, 0x00, 0x00, 0x00] =
      .ok (.reservedType (packet 0xE0 0x00 0x0000 0x0000 0x0000)) := by decide

/-- 95_test_vectors.md V-C34. -/
theorem test_decode_set_configuration :
    decode exampleParams .setup [0x00, 0x09, 0x00, 0x01, 0x00, 0x00, 0x00, 0x00] =
      .ok (.setConfiguration (packet 0x00 0x09 0x0100 0x0000 0x0000)) := by decide

/-- 95_test_vectors.md P2 step 1. -/
theorem test_decode_set_interface :
    decode exampleParams .setup [0x01, 0x0B, 0x01, 0x00, 0x01, 0x00, 0x00, 0x00] =
      .ok (.setInterface (packet 0x01 0x0B 0x0001 0x0001 0x0000)) := by decide

/-- 30_encoding.md R125, GET_CONFIGURATION(). -/
theorem test_decode_get_configuration :
    decode exampleParams .setup [0x80, 0x08, 0x00, 0x00, 0x00, 0x00, 0x01, 0x00] =
      .ok (.getConfiguration (packet 0x80 0x08 0x0000 0x0000 0x0001)) := by decide

/-- 95_test_vectors.md 2.9; an endpoint event of endpoint 3, the last of the example's four (30_encoding.md R120). -/
theorem test_decode_events :
    decode exampleParams .event [0x00] = .ok .evReset ∧ decode exampleParams .event [0x10] = .ok .evRx ∧
    decode exampleParams .event [0x20] = .ok (.evIn 0) ∧ decode exampleParams .event [0x23] = .ok (.evIn 3) ∧
    decode exampleParams .event [0x30] = .ok (.evOut 0) ∧ decode exampleParams .event [0x31] = .ok (.evOut 1) := by decide

/-- 30_encoding.md R120, R122: kinds 4 to 15 and a non-zero endpoint of kinds 0 and 1; 46_event_dispatch.md R330: endpoint 4
of four. -/
theorem test_decode_event_refused :
    decode exampleParams .event [0x40] = .error .reservedEventKind ∧
    decode exampleParams .event [0xF0] = .error .reservedEventKind ∧
    decode exampleParams .event [0x01] = .error .endpointNotZero ∧
    decode exampleParams .event [0x1F] = .error .endpointNotZero ∧
    decode exampleParams .event [0x24] = .error .noSuchEndpoint ∧
    decode exampleParams .event [0x34] = .error .noSuchEndpoint := by decide

/-- 30_encoding.md R124: a setup packet is always 8 bytes. -/
theorem test_decode_length_refused :
    decode exampleParams .setup [0x80, 0x06] = .error .wrongLength ∧ decode exampleParams .rxsts [] = .error .wrongLength ∧
    decode exampleParams .event [0x00, 0x00] = .error .wrongLength := by decide

/-- 95_test_vectors.md 2.9: `0x000C0080`, `0x00080000`, `0x00040C41`, `0x00060001`. -/
theorem test_decode_status_words :
    decode exampleParams .rxsts [0x80, 0x00, 0x0C, 0x00] = .ok (.rxSetupRx ⟨0, 8, 0, 0⟩) ∧
    decode exampleParams .rxsts [0x00, 0x00, 0x08, 0x00] = .ok (.rxSetupDone ⟨0, 0, 0, 0⟩) ∧
    decode exampleParams .rxsts [0x41, 0x0C, 0x04, 0x00] = .ok (.rxOutRx ⟨1, 196, 0, 0⟩) ∧
    decode exampleParams .rxsts [0x01, 0x00, 0x06, 0x00] = .ok (.rxOutDone ⟨1, 0, 0, 0⟩) := by decide

/-- 30_encoding.md R119 by hand: PKTSTS 1 (global OUT NAK, `0x00020000`) and 15, DPID 3 and FRMNUM 9 in their places:
`9 << 21 | 15 << 17 | 3 << 15 = 0x013F8000`. -/
theorem test_decode_other_status :
    decode exampleParams .rxsts [0x00, 0x00, 0x02, 0x00] = .ok (.rxOther 1 ⟨0, 0, 0, 0⟩) ∧
    decode exampleParams .rxsts [0x00, 0x80, 0x3F, 0x01] = .ok (.rxOther 15 ⟨0, 0, 3, 9⟩) := by decide

/-- 30_encoding.md R111, R119, R120: bytes laid out by hand. -/
theorem test_encode :
    encode (.setInterface (packet 0x01 0x0B 0x0001 0x0102 0x0304)) = [0x01, 0x0B, 0x01, 0x00, 0x02, 0x01, 0x04, 0x03] ∧
    encode (.rxOutRx ⟨1, 196, 0, 0⟩) = [0x41, 0x0C, 0x04, 0x00] ∧ encode (.evOut 1) = [0x31] := by decide

/-- The table's words of SET_ADDRESS, EV_RX and RX_SETUP_RX (spec/opcode_table.json), with the bits above them zero. -/
theorem test_table_words :
    decodeTableWord 16 0x0500 = some (.setAddress (packet 0x00 0x05 0 0 0)) ∧ decodeTableWord 8 0x10 = some .evRx ∧
    decodeTableWord 32 0x000C0000 = some (.rxSetupRx ⟨0, 0, 0, 0⟩) := by decide

/-! One step of each instruction. -/

/-- V-S2: two bytes although one was asked (70_reset_and_hazards.md R407). -/
theorem test_get_status :
    got replied (exec (.getStatus (packet 0x80 0x00 0 0 1)) ready) = some (some [0x00, 0x00], .dataIn, 2, 2) := by decide

/-- V-Q18: the old packet is replaced. -/
theorem test_get_status_replaces :
    got replied (exec (.getStatus (packet 0x80 0x00 0 0 2)) ((inData (counting 64) 64).onEp0 fun e => { e with tx := some [7] })) =
      some (some [0x00, 0x00], .dataIn, 2, 2) := by decide

/-- V-S5: the largest address. -/
theorem test_set_address :
    got (fun s => (s.dev.devAddr, acked s)) (exec (.setAddress (packet 0x00 0x05 0x007F 0 0)) ready) =
      some (0x7F, some [], .statusOut) := by decide

/-- V-S4, V-S6, V-S7: a non-zero index, an address past 0x7F, a non-zero length. -/
theorem test_set_address_stalls :
    got (fun s => (s.dev.devAddr, stalled s)) (exec (.setAddress (packet 0x00 0x05 0x0005 1 0)) ready) =
      some (0, true, true, .idle) ∧
    got stalled (exec (.setAddress (packet 0x00 0x05 0x0080 0 0)) ready) = some (true, true, .idle) ∧
    got stalled (exec (.setAddress (packet 0x00 0x05 0x0005 0 1)) ready) = some (true, true, .idle) := by decide

/-- V-D1: no length, so a ZLP and `StatusOut` at once, for each of the four descriptor requests. -/
theorem test_get_descriptor_zero_length :
    got acked (exec (.getDescriptorDevice (packet 0x80 0x06 0x0100 0 0)) ready) = some (some [], .statusOut) ∧
    got acked (exec (.getDescriptorConfiguration (packet 0x80 0x06 0x0200 0 0)) ready) = some (some [], .statusOut) ∧
    got acked (exec (.getDescriptorString (packet 0x80 0x06 0x0302 0 0)) ready) = some (some [], .statusOut) ∧
    got acked (exec (.getDescriptorQualifier (packet 0x80 0x06 0x0600 0 0)) ready) = some (some [], .statusOut) := by decide

/-- V-D2, V-D4: 8 of 18 bytes; 18 of 64. -/
theorem test_serve_device :
    replied (onSetup (packet 0x80 0x06 0x0100 0 0x0008) (serve exampleParams.devDesc 18) ready) =
      (some [18, 1, 0, 2, 0xEF, 2, 1, 64], .dataIn, 8, 8) ∧
    (replied (onSetup (packet 0x80 0x06 0x0100 0 0x0040) (serve exampleParams.devDesc 18) ready)).2 = (.dataIn, 18, 18) := by
  decide

/-- V-D10: the self-declared length 10, not the 12 stored bytes; V-D11: two of four. -/
theorem test_serve_string :
    stringTable exampleParams 1 = some exampleParams.strDesc.manufacturer ∧
    replied (onSetup (packet 0x80 0x06 0x0301 0x0409 0x00FF)
        (serve exampleParams.strDesc.manufacturer (byteAt exampleParams.strDesc.manufacturer 0).toNat) ready) =
      (some [10, 3, 1, 2, 3, 4, 5, 6, 7, 8], .dataIn, 10, 10) ∧
    replied (onSetup (packet 0x80 0x06 0x0300 0 0x0002)
        (serve exampleParams.strDesc.language (byteAt exampleParams.strDesc.language 0).toNat) ready) =
      (some [4, 3], .dataIn, 2, 2) := by decide

/-- V-D13. -/
theorem test_get_descriptor_other :
    got stalled (exec (.getDescriptorOther (packet 0x80 0x06 0x0303 0 0x00FF)) ready) = some (true, true, .idle) := by decide

/-- V-S8, and R194's example after SET_CONFIGURATION(1). -/
theorem test_get_configuration :
    got replied (exec (.getConfiguration (packet 0x80 0x08 0 0 1)) ready) = some (some [0x00], .dataIn, 1, 1) ∧
    got replied (exec (.getConfiguration (packet 0x80 0x08 0 0 1)) (ready.onDev fun d => { d with config := 1 })) =
      some (some [0x01], .dataIn, 1, 1) := by decide

/-- V-S9, V-S20: 1 enables the endpoint, 0 leaves it enabled. -/
theorem test_set_configuration :
    got (fun s => (s.dev.config, s.iso.active, acked s)) (exec (.setConfiguration (packet 0x00 0x09 1 0 0)) ready) =
      some (1, true, some [], .statusOut) ∧
    got (fun s => (s.dev.config, s.iso.active, acked s))
      (exec (.setConfiguration (packet 0x00 0x09 0 0 0)) (ready.onIso fun i => { i with active := true })) =
      some (0, true, some [], .statusOut) := ⟨by decide, by decide⟩

/-- V-S9: 256 is not 0. -/
theorem test_set_configuration_stalls :
    got (fun s => (s.dev.config, stalled s)) (exec (.setConfiguration (packet 0x00 0x09 0x0100 0 0)) ready) =
      some (0, true, true, .idle) := by decide

/-- V-S10, then V-S14: alternate 1 enables and arms, alternate 0 disables and leaves 196 in the size fields. -/
theorem test_set_interface :
    got (fun s => (s.dev.asAlt, s.iso, acked s)) (exec (.setInterface (packet 0x01 0x0B 1 1 0)) ready) =
      some (1, { active := true, mps := 196, armed := true, rem := 196, rxpkt := [] }, some [], .statusOut) ∧
    got (fun s => (s.dev.asAlt, s.iso, acked s))
      (exec (.setInterface (packet 0x01 0x0B 0 1 0))
        (ready.onIso fun i => { i with active := true, mps := 196, armed := true, rem := 196 })) =
      some (0, { active := false, mps := 196, armed := false, rem := 196, rxpkt := [] }, some [], .statusOut) :=
  ⟨by decide, by decide⟩

/-- V-S11, V-S12, V-S15. -/
theorem test_set_interface_stalls :
    got stalled (exec (.setInterface (packet 0x01 0x0B 2 1 0)) ready) = some (true, true, .idle) ∧
    got stalled (exec (.setInterface (packet 0x01 0x0B 1 0 0)) ready) = some (true, true, .idle) ∧
    got stalled (exec (.setInterface (packet 0x01 0x0B 0 2 0)) ready) = some (true, true, .idle) := by decide

/-- V-S19, V-S17, V-S18: SET_FEATURE, a vendor code other than 1, the reserved type. -/
theorem test_unimplemented_stall :
    got stalled (exec (.stdUnsupported (packet 0x00 0x03 1 0 0)) ready) = some (true, true, .idle) ∧
    got stalled (exec (.vendorUnsupported (packet 0xC0 0x02 0 0 4)) ready) = some (true, true, .idle) ∧
    got stalled (exec (.reservedType (packet 0xE0 0x00 0 0 0)) ready) = some (true, true, .idle) := by decide

/-- V-S16, with the example token. -/
theorem test_keepalive :
    replied (onSetup (packet 0xC0 0x01 0 0 4) (reply exampleParams exampleParams.keepaliveToken) ready) =
      (some [1, 2, 3, 4], .dataIn, 4, 4) := by decide

/-- V-Q20: the other reading of REPLY_CLAMP (92_eei_decisions.md D15). -/
theorem test_reply_clamped :
    replied (onSetup (packet 0x80 0x00 0 0 1) (reply { exampleParams with replyClamp := true } [0x00, 0x00]) ready) =
      (some [0x00], .dataIn, 1, 1) := by decide

/-- V-U17, V-U16, V-U4, V-U12. -/
theorem test_class_acked :
    got acked (exec (.uac2EpAny (packet 0x22 0x01 0x0100 0x0001 3)) ready) = some (some [], .statusOut) ∧
    got acked (exec (.uac2AsAny (packet 0xA1 0x01 0x0100 0x0001 4)) ready) = some (some [], .statusOut) ∧
    got (fun s => (s.clk.sampleRate, acked s)) (exec (.uac2FreqSetCur (packet 0x21 0x01 0x0100 0x1000 4)) ready) =
      some (48000, some [], .statusOut) ∧
    got acked (exec (.uac2CxSetCur (packet 0x21 0x01 0x0100 0x1100 1)) ready) = some (some [], .statusOut) := by decide

/-- V-U18, V-U19, V-U15, V-U10, V-U14. -/
theorem test_class_routes_stall :
    got stalled (exec (.uac2BadRecipient (packet 0xA0 0x01 0x0100 0x1000 4)) ready) = some (true, true, .idle) ∧
    got stalled (exec (.uac2BadInterface (packet 0xA1 0x01 0x0100 0x1002 4)) ready) = some (true, true, .idle) ∧
    got stalled (exec (.uac2AcBadEntity (packet 0xA1 0x01 0x0100 0x0000 1)) ready) = some (true, true, .idle) ∧
    got stalled (exec (.uac2CsBadSelector (packet 0xA1 0x01 0x0300 0x1000 1)) ready) = some (true, true, .idle) ∧
    got stalled (exec (.uac2CxBadSelector (packet 0xA1 0x01 0x0200 0x1100 1)) ready) = some (true, true, .idle) := by decide

/-- V-U6, V-U8, V-U9, V-U13. -/
theorem test_class_requests_stall :
    got stalled (exec (.uac2FreqOther (packet 0x21 0x02 0x0100 0x1000 14)) ready) = some (true, true, .idle) ∧
    got stalled (exec (.uac2ValidSetCur (packet 0x21 0x01 0x0200 0x1000 1)) ready) = some (true, true, .idle) ∧
    got stalled (exec (.uac2ValidOther (packet 0xA1 0x02 0x0200 0x1000 2)) ready) = some (true, true, .idle) ∧
    got stalled (exec (.uac2CxOther (packet 0xA1 0x02 0x0100 0x1100 2)) ready) = some (true, true, .idle) := by decide

/-- V-U1, V-U3, V-U7. -/
theorem test_class_replies :
    got replied (exec (.uac2FreqGetCur (packet 0xA1 0x01 0x0100 0x1000 4)) ready) =
      some (some [0x80, 0xBB, 0x00, 0x00], .dataIn, 4, 4) ∧
    got replied (exec (.uac2FreqGetRange (packet 0xA1 0x02 0x0100 0x1000 2)) ready) =
      some (some [0x01, 0x00, 0x80, 0xBB, 0x00, 0x00, 0x80, 0xBB, 0x00, 0x00, 0x01, 0x00, 0x00, 0x00], .dataIn, 14, 14) ∧
    got replied (exec (.uac2ValidGetCur (packet 0xA1 0x01 0x0200 0x1000 1)) ready) = some (some [0x01], .dataIn, 1, 1) := by
  decide

/-- V-U11, with the example ID. -/
theorem test_cx_get_cur :
    replied (onSetup (packet 0xA1 0x01 0x0100 0x1100 1) (reply exampleParams [exampleParams.clockSourceId]) ready) =
      (some [0x10], .dataIn, 1, 1) := by decide

/-- V-E2: from `DataIn` with a packet loaded and both stall bits set. -/
theorem test_ev_reset :
    got (fun s => (s.ctl.phase, s.ep0, s.dev.devAddr, s.ev.rstPending))
      (exec .evReset (((((inData (counting 64) 64).onEp0 fun e =>
        { e with inStall := true, outStall := true, outArmed := false, tx := some (counting 64), irqUnmasked := false }).onDev
          fun d => { d with devAddr := 5 })).onEv fun v => { v with rstPending := true })) =
      some (.idle, { inStall := false, outStall := false, outArmed := true, tx := none, irqUnmasked := true }, 0, false) := by
  decide

/-- P1 step 4 with a GET_STATUS: EV_RX runs the request of the head entry and leaves the second entry. -/
theorem test_ev_rx :
    got (fun s => (replied s, s.ev.rxq))
      (exec .evRx (hostSetup [0x80, 0x00, 0x00, 0x00, 0x00, 0x00, 0x02, 0x00] ready)) =
      some ((some [0x00, 0x00], .dataIn, 2, 2), [{ kind := .setupDone, ep := 0, bcnt := 0, data := [] }]) := by decide

/-- V-E8: seven bytes. -/
theorem test_ev_rx_bad_length :
    got (fun s => (s.fault, s.ev.rxq, s.ctl.phase))
      (exec .evRx (pushRx [{ kind := .setupRx, ep := 0, bcnt := 7, data := counting 7 }] ready)) =
      some (some .badSetupLength, [], .idle) := by decide

/-- V-Q12: 36 of 100 bytes left. -/
theorem test_ev_in_continues :
    got (fun s => (s.ep0.tx.map List.length, s.ctl.sent, s.ctl.zlpPending, s.ctl.phase, flagAt s.ev.iepXfrc 0))
      (exec (.evIn 0) (setIepXfrc 0 true (inData (counting 100) 64))) = some (some 36, 100, false, .dataIn, false) := by decide

/-- V-Q13: nothing left. V-E7: an endpoint other than 0. -/
theorem test_ev_in_ends :
    got (fun s => (s.ctl.phase, s.ep0.outArmed, s.ep0.tx)) (exec (.evIn 0) (setIepXfrc 0 true (inData (counting 100) 100))) =
      some (.statusOut, true, none) ∧
    got (fun s => (s.ctl.phase, s.ev.iepXfrc)) (exec (.evIn 2) (setIepXfrc 2 true (inData (counting 100) 100))) =
      some (.dataIn, [false, false, false, false]) := by decide

/-- V-Q16, V-Q17, V-E6: the OUT completion in `StatusOut`, in `DataIn`, and the setup-done flag alone. -/
theorem test_ev_out :
    got (fun s => (s.ctl.phase, s.ev.oepXfrc)) (exec (.evOut 0) (setOepXfrc 0 true (setPhase .statusOut ready))) =
      some (.idle, [false, false, false, false]) ∧
    got (fun s => (s.ctl.phase, s.ev.oepXfrc)) (exec (.evOut 0) (setOepXfrc 0 true (inData (counting 64) 64))) =
      some (.dataIn, [false, false, false, false]) ∧
    got (fun s => (s.ctl.phase, s.ev.oepStup)) (exec (.evOut 0) (setOepStup 0 true (setPhase .statusOut ready))) =
      some (.statusOut, [false, false, false, false]) := by decide

/-- V-I13: the faults of a pipeline state no run reaches. -/
theorem test_ev_out_faults :
    got (fun s => (s.fault, s.aud.wrIdx, s.iso.rem))
      (exec (.evOut 1) (setOepXfrc 1 true (ready.onIso fun i => { i with rem := 197 }))) =
      some (some .isoRemOverflow, 0, 197) ∧
    got (fun s => (s.fault, s.aud.wrIdx, s.iso.rem))
      (exec (.evOut 1) (setOepXfrc 1 true (ready.onIso fun i => { i with rem := 195 }))) =
      some (some .isoShortData, 0, 195) := by decide

/-- V-E9, V-E5, V-E4, and SETUP_DONE: each pops its entry, OUT_DONE of any endpoint re-arms EP0. -/
theorem test_rx_rows :
    got (fun s => (s.ev.rxq, s.ep0.outArmed)) (exec (.rxOutRx ⟨0, 4, 0, 0⟩)
      (pushRx [{ kind := .outRx, ep := 0, bcnt := 4, data := counting 4 }] (State.powerOn exampleParams))) = some ([], false) ∧
    got (fun s => (s.ev.rxq, s.ep0.outArmed)) (exec (.rxOutDone ⟨1, 0, 0, 0⟩)
      (pushRx [{ kind := .outDone, ep := 1, bcnt := 0, data := [] }] (State.powerOn exampleParams))) = some ([], true) ∧
    got (fun s => (s.ev.rxq, s.ep0.outArmed)) (exec (.rxSetupDone ⟨0, 0, 0, 0⟩)
      (pushRx [{ kind := .setupDone, ep := 0, bcnt := 0, data := [] }] (State.powerOn exampleParams))) = some ([], false) ∧
    got (fun s => (s.ev.rxq, s.ep0.outArmed)) (exec (.rxOther 1 ⟨0, 0, 0, 0⟩)
      (pushRx [{ kind := .other 1, ep := 0, bcnt := 0, data := [] }] (State.powerOn exampleParams))) = some ([], false) := by
  decide

/-- A setup entry read through the row of its status word: SET_CONFIGURATION(1), and a word that counts 7 bytes. -/
theorem test_rx_setup_rx :
    got (fun s => (s.dev.config, acked s)) (exec (.rxSetupRx ⟨0, 8, 0, 0⟩)
      (hostSetup [0x00, 0x09, 0x01, 0x00, 0x00, 0x00, 0x00, 0x00] ready)) = some (1, some [], .statusOut) ∧
    got (fun s => (s.fault, s.dev.config)) (exec (.rxSetupRx ⟨0, 7, 0, 0⟩)
      (hostSetup [0x00, 0x09, 0x01, 0x00, 0x00, 0x00, 0x00, 0x00] ready)) = some (some .badSetupLength, 0) := by decide

/-! Shared operations. -/

/-- V-Q11: the missing-buffer arm. -/
theorem test_send_missing_buffer : stalled (send none 4 ready) = (true, true, .idle) := by decide

/-- V-Q5, V-Q6, V-Q10: the packets of 64, 65 and 192 bytes. -/
theorem test_data_packets :
    (dataPackets (counting 64) 64).map List.length = [64, 0] ∧ (dataPackets (counting 65) 65).map List.length = [64, 1] ∧
    (dataPackets (counting 192) 192).map List.length = [64, 64, 64, 0] := by decide

/-- V-Q5: the first packet of 64 bytes marks the ZLP. -/
theorem test_send_marks_zlp :
    (send (some (counting 64)) 64 ready).ctl.zlpPending = true ∧ (send (some (counting 65)) 65 ready).ctl.zlpPending = false := by
  decide

/-- V-I3: toggle 1 writes buffer A; V-I6, V-I7: a partial group is not read, raw bits are stored. -/
theorem test_iso_samples :
    (isoReceive smallParams ((ready.onIso fun i =>
        { i with rem := 188, rxpkt := [1, 0, 2, 0, 3, 0, 4, 0] }).onEnv fun _ => { clock := 5, toggle := 1 })).aud =
      { bufA := [1, 2, 3, 4, 0, 0, 0, 0, 0, 0, 0, 0], bufB := List.replicate 12 0, wrIdx := 4, ring := [5, 0, 0, 0], ringIdx := 1 } ∧
    (isoReceive smallParams (ready.onIso fun i => { i with rem := 191, rxpkt := [0x00, 0x80, 0xFF, 0x7F, 0xFF] })).aud =
      { bufA := List.replicate 12 0, bufB := [0x8000, 0x7FFF, 0, 0, 0, 0, 0, 0, 0, 0, 0, 0], wrIdx := 2
        ring := [0, 0, 0, 0], ringIdx := 1 } := by decide

/-- V-I5: three bytes are no sample but one timestamp, and the ring index wraps. -/
theorem test_iso_short_packet :
    (isoReceive smallParams (((ready.onIso fun i => { i with rem := 193, rxpkt := [0xAA, 0xBB, 0xCC] }).onAud fun a =>
        { a with wrIdx := 10, ringIdx := 3 }).onEnv fun _ => { clock := 8, toggle := 0 })).aud =
      { bufA := List.replicate 12 0, bufB := List.replicate 12 0, wrIdx := 10, ring := [0, 0, 0, 8], ringIdx := 0 } := by
  decide

/-- V-I8: the write index wraps inside one packet; V-I10: the timestamp wraps at its width. -/
theorem test_iso_wraps :
    (isoReceive { exampleParams with bufSamples := 4 }
        (((State.powerOn { exampleParams with bufSamples := 4 }).onIso fun i =>
          { i with rem := 188, rxpkt := [0x11, 0, 0x22, 0, 0x33, 0, 0x44, 0] }).onAud fun a => { a with wrIdx := 2 })).aud.bufB =
      [0x33, 0x44, 0x11, 0x22] ∧
    (isoReceive smallParams ((ready.onIso fun i => { i with rem := 196 }).onEnv fun _ =>
        { clock := 2 ^ 32 + 5, toggle := 0 })).aud.ring = [5, 0, 0, 0] := by decide

/-- V-I9: a ring of one entry. -/
theorem test_iso_ring_of_one :
    (fun s : State => (s.aud.ring, s.aud.ringIdx)) (isoReceive { exampleParams with bufSamples := 12, ringCap := 1 }
        (((State.powerOn { exampleParams with bufSamples := 12, ringCap := 1 }).onIso fun i =>
          { i with rem := 196 }).onEnv fun _ => { clock := 11, toggle := 0 })) = ([11], 0) := by decide

/-- V-H1, V-H2, V-H3. -/
theorem test_host_out :
    (fun s : State => (s.hostLog, s.ev.rxq)) (hostOut0 [] (ready.onEp0 fun e => { e with outStall := true, outArmed := false })) =
      ([.stallOut], []) ∧
    hostOut0 [] (ready.onEp0 fun e => { e with outArmed := false }) = ready.onEp0 (fun e => { e with outArmed := false }) ∧
    (fun s : State => (s.ep0.outArmed, s.ev.rxq, s.ev.oepXfrc)) (hostOut0 [0xAA] ready) =
      (false, [{ kind := .outRx, ep := 0, bcnt := 1, data := [0xAA] }, { kind := .outDone, ep := 0, bcnt := 0, data := [] }],
        [true, false, false, false]) := by decide

/-- V-H4, V-H5, V-H6. -/
theorem test_host_in :
    (fun s : State => (s.hostLog, s.ep0.tx)) (hostIn0 (ready.onEp0 fun e => { e with inStall := true, tx := some [0, 0] })) =
      ([.stallIn], some [0, 0]) ∧
    hostIn0 ready = ready ∧
    (fun s : State => (s.hostLog, s.ep0.tx, s.ev.iepXfrc)) (hostIn0 (ready.onEp0 fun e => { e with tx := some [1] })) =
      ([.pkt [1]], none, [true, false, false, false]) := by decide

/-- V-H7, V-E1. -/
theorem test_host_setup :
    (fun s : State => (s.ep0.inStall, s.ep0.outStall, s.ev.rxq.map RxEntry.kind, s.ev.oepStup, rxEnabled s, outEnabled 0 s))
      (hostSetup (counting 8) ((State.powerOn exampleParams).onEp0 fun e => { e with inStall := true, outStall := true })) =
      (false, false, [.setupRx, .setupDone], [true, false, false, false], true, false) := by decide

/-- V-H8, V-H9, V-H10 with a 2-byte packet. -/
theorem test_host_iso :
    hostIso [1, 2] (ready.onIso fun i => { i with armed := true }) = ready.onIso (fun i => { i with armed := true }) ∧
    hostIso [1, 2] (ready.onIso fun i => { i with active := true }) = ready.onIso (fun i => { i with active := true }) ∧
    (fun s : State => (s.iso, s.ev.rxq.map RxEntry.kind, s.ev.oepXfrc))
        (hostIso [1, 2] (ready.onIso fun i => { i with active := true, armed := true, rem := 196 })) =
      ({ active := true, mps := 0, armed := false, rem := 194, rxpkt := [1, 2] }, [.outRx, .outDone],
        [false, true, false, false]) := by decide

/-- V-H11. -/
theorem test_tick :
    (tick 40 (ready.onEnv fun e => { e with clock := 50 })).env.clock = 50 ∧
    (tick 60 (ready.onEnv fun e => { e with clock := 50 })).env.clock = 60 := by decide

/-- 20_memory.md R90: the consumer reads one element of a buffer and changes nothing. -/
theorem test_consumer :
    consumerRead (.bufA 3) ready = some (.sample 0) ∧ consumerRead (.ring 4) ready = none ∧ consume .phase ready = ready := by
  decide

/-- 60_exceptions.md R379: packets outside the host's contract have no step. -/
theorem test_contract :
    producible (.hostSetup (counting 7)) = false ∧ producible (.hostOut0 (counting 65)) = false ∧
    producible (.hostIso (List.replicate 197 0)) = false ∧ producible (.hostIso (List.replicate 196 0)) = true := by
  have h : ∀ d, producible (.hostIso d) = decide (d.length ≤ 196) := fun _ => rfl
  rw [h, h, List.length_replicate, List.length_replicate]
  decide

/-! Witnesses: for each statement with hypotheses, a state and operands that meet them, at the boundaries of its clauses. -/

/-- "Ready" with one receive-status entry. -/
def queued (k : RxKind) (n : Nat) (d : List Byte) : State := pushRx [{ kind := k, ep := 0, bcnt := n, data := d }] ready

/-- "Ready" with a pending setup entry and EV_RX as the schedule's next choice. -/
def setupPending (b : List Byte) : State := { queued .setupRx 8 b with schedule := [.event 0x10] }

/-- A state with the given next choice. -/
def choosing (a : Action) (s : State) : State := { s with schedule := [a] }

/-- "Ready" with the isochronous completion pending, `rem` bytes remaining and the packet `d`. -/
def isoPending (rem : Nat) (d : List Byte) : State :=
  setOepXfrc 1 true (ready.onIso fun i => { i with rem := rem, rxpkt := d })

theorem witness_decode_of_encode :
    exampleParams.Wf ∧ (Instr.setInterface (packet 0xFF 0x0B 0xFFFF 0xFFFF 0xFFFF)).wf exampleParams = false ∧
    (Instr.setInterface (packet 0x9F 0x0B 0xFFFF 0xFFFF 0xFFFF)).wf exampleParams = true ∧
    (Instr.uac2CxOther (packet 0xA1 0xFF 0x01FF 0x1100 0xFFFF)).wf exampleParams = true ∧
    (Instr.evIn 3).wf exampleParams = true ∧ (Instr.rxOther 15 ⟨15, 2047, 3, 15⟩).wf exampleParams = true := by decide

theorem witness_exactly_one_request :
    exampleParams.Wf ∧ (Instr.getDescriptorString (packet 0x80 0x06 0x0302 0 0)).packet? = some (packet 0x80 0x06 0x0302 0 0) ∧
    (Instr.getDescriptorString (packet 0x80 0x06 0x0302 0 0)).wf exampleParams = true := by decide

theorem witness_written_out_words :
    exampleParams.clockSourceId = 0x10 ∧ exampleParams.clockSelectorId = 0x11 ∧ 2 ≤ exampleParams.numEp := by decide

theorem witness_step_runs_event :
    (choosing (.event 0x31) ready).fault = none ∧ (choosing (.event 0x31) ready).schedule = [.event 0x31] ∧
    decode Config.params .event [0x31] = .ok (.evOut 1) := ⟨rfl, rfl, rfl⟩

theorem witness_step_runs_request :
    (setupPending [0x80, 0x00, 0, 0, 0, 0, 2, 0]).fault = none ∧
    (setupPending [0x80, 0x00, 0, 0, 0, 0, 2, 0]).schedule = [.event 0x10] ∧
    (setupPending [0x80, 0x00, 0, 0, 0, 0, 2, 0]).ev.rxq =
      [{ kind := .setupRx, ep := 0, bcnt := 8, data := [0x80, 0x00, 0, 0, 0, 0, 2, 0] }] ∧
    decode Config.params .setup [0x80, 0x00, 0, 0, 0, 0, 2, 0] = .ok (.getStatus (packet 0x80 0x00 0 0 2)) :=
  ⟨rfl, rfl, rfl, rfl⟩

/-- One state for each clause: OUT_RX, OUT_DONE, SETUP_DONE, OTHER(15), SETUP_RX counted by its word. -/
theorem witness_rx_event_runs_row :
    (queued .outRx 64 (counting 64)).ev.rxq = [{ kind := .outRx, ep := 0, bcnt := 64, data := counting 64 }] ∧
    (queued .outDone 0 []).ev.rxq = [{ kind := .outDone, ep := 0, bcnt := 0, data := [] }] ∧
    (queued .setupDone 0 []).ev.rxq = [{ kind := .setupDone, ep := 0, bcnt := 0, data := [] }] ∧
    (queued (.other 15) 0 []).ev.rxq = [{ kind := .other 15, ep := 0, bcnt := 0, data := [] }] ∧
    (queued .setupRx 8 (counting 8)).ev.rxq = [{ kind := .setupRx, ep := 0, bcnt := 8, data := counting 8 }] ∧
    (⟨0, 8, 0, 0⟩ : RxStatus).bcnt.toNat = 8 := by decide

theorem witness_fault_stops :
    (raiseFault .badSetupLength ready).fault = some .badSetupLength ∧ ∃ t, step (choosing .hostReset ready) = .next t :=
  ⟨rfl, _, rfl⟩

theorem witness_drawn_choice : State.reset.fault = none ∧ State.reset.schedule = [] := ⟨rfl, rfl⟩

theorem witness_get_status : (packet 0x82 0x00 0 0 0).type = 0 ∧ (packet 0x82 0x00 0 0 0).bRequest = 0x00 := by decide

/-- 0x7F is accepted; 0x80, index 1 and length 1 each stall alone. -/
theorem witness_set_address :
    (packet 0x00 0x05 0x7F 0 0).type = 0 ∧ (packet 0x00 0x05 0x7F 0 0).bRequest = 0x05 ∧
    ((packet 0x00 0x05 0x7F 0 0).wValue.toNat ≤ 0x7F ∧ (packet 0x00 0x05 0x7F 0 0).wIndex = 0 ∧
      (packet 0x00 0x05 0x7F 0 0).wLength = 0) ∧
    0x7F < (packet 0x00 0x05 0x80 0 0).wValue.toNat ∧ (packet 0x00 0x05 0x7F 1 0).wIndex ≠ 0 ∧
    (packet 0x00 0x05 0x7F 0 1).wLength ≠ 0 := by decide

theorem witness_get_configuration : (packet 0x80 0x08 0 0 1).type = 0 ∧ (packet 0x80 0x08 0 0 1).bRequest = 0x08 := by decide

theorem witness_set_configuration :
    (packet 0x00 0x09 2 0 0).type = 0 ∧ (packet 0x00 0x09 2 0 0).bRequest = 0x09 ∧ (packet 0x00 0x09 0 0 0).wValue = 0 ∧
    (packet 0x00 0x09 1 0 0).wValue = 1 ∧ 1 < (packet 0x00 0x09 2 0 0).wValue.toNat := by decide

theorem witness_set_interface :
    (packet 0x01 0x0B 0 0 0).type = 0 ∧ (packet 0x01 0x0B 0 0 0).bRequest = 0x0B ∧
    ((packet 0x01 0x0B 0 0 0).wIndex = 0 ∧ (packet 0x01 0x0B 0 0 0).wValue = 0) ∧
    ((packet 0x01 0x0B 0 1 0).wIndex = 1 ∧ (packet 0x01 0x0B 0 1 0).wValue = 0) ∧
    ((packet 0x01 0x0B 1 1 0).wIndex = 1 ∧ (packet 0x01 0x0B 1 1 0).wValue = 1) ∧
    1 < (packet 0x01 0x0B 0 2 0).wIndex.toNat ∧ 1 < (packet 0x01 0x0B 2 1 0).wValue.toNat ∧
    ((packet 0x01 0x0B 1 0 0).wIndex = 0 ∧ (packet 0x01 0x0B 1 0 0).wValue = 1) := by decide

theorem witness_unknown_vendor :
    (packet 0x40 0x00 0 0 0).type = 2 ∧ (packet 0x40 0x00 0 0 0).bRequest ≠ 0x01 ∧ (packet 0xFF 0x01 0 0 0).type = 3 := by
  decide

theorem witness_unknown_standard :
    (packet 0x80 0x0A 0 1 1).type = 0 ∧ (packet 0x80 0x0A 0 1 1).bRequest ∉ [0x00, 0x05, 0x06, 0x08, 0x09, 0x0B] := by
  decide

theorem witness_keepalive : (packet 0x40 0x01 0 0 0).type = 2 ∧ (packet 0x40 0x01 0 0 0).bRequest = 0x01 := by decide

theorem witness_fixed_descriptors :
    (packet 0x80 0x06 0x0105 0 0).type = 0 ∧ (packet 0x80 0x06 0x0105 0 0).bRequest = 0x06 ∧
    (packet 0x80 0x06 0x0105 0 0).dtype = 1 ∧ (packet 0x80 0x06 0x02FF 0 9).dtype = 2 ∧
    (packet 0x80 0x06 0x0600 0 10).dtype = 6 := by decide

theorem witness_string_descriptors :
    (packet 0x80 0x06 0x0302 0 0).type = 0 ∧ (packet 0x80 0x06 0x0302 0 0).bRequest = 0x06 ∧
    (packet 0x80 0x06 0x0302 0 0).dtype = 3 ∧ (packet 0x80 0x06 0x0302 0 0).dindex.toNat ≤ 2 ∧
    (packet 0x80 0x06 0x0300 0 0).dindex = 0 ∧ (packet 0x80 0x06 0x0301 0 0).dindex = 1 ∧
    (packet 0x80 0x06 0x0302 0 0).dindex = 2 := by decide

/-- String index 3, and types 0, 4 and 7. -/
theorem witness_unknown_descriptors :
    (packet 0x80 0x06 0x0303 0 0).type = 0 ∧ (packet 0x80 0x06 0x0303 0 0).bRequest = 0x06 ∧
    (packet 0x80 0x06 0x0303 0 0).dtype = 3 ∧ 2 < (packet 0x80 0x06 0x0303 0 0).dindex.toNat ∧
    (packet 0x80 0x06 0x0400 0 0).dtype ∉ [1, 2, 3, 6] ∧ (packet 0x80 0x06 0x0000 0 0).dtype ∉ [1, 2, 3, 6] ∧
    (packet 0x80 0x06 0x0700 0 0).dtype ∉ [1, 2, 3, 6] := by decide

theorem witness_streaming_and_endpoint :
    (packet 0x22 0x01 0 1 0).type = 1 ∧ (packet 0x22 0x01 0 1 0).recipient = 2 ∧ (packet 0xA1 0x01 0 0xFF01 0).type = 1 ∧
    (packet 0xA1 0x01 0 0xFF01 0).recipient = 1 ∧ (packet 0xA1 0x01 0 0xFF01 0).ifn = 1 := by decide

/-- A request to the control `cs` of the entity `ent`, whatever the entity IDs are. -/
def classPacket (dir : Bool) (br cs ent : BitVec 8) : SetupPacket :=
  packet (if dir then 0xA1 else 0x21) br (cs ++ 0#8) (ent ++ 0#8) 0

/-- The entity field of such a request is the entity. -/
theorem classPacket_ent (dir : Bool) (br cs ent : BitVec 8) : (classPacket dir br cs ent).ent = ent := by
  show (ent ++ 0#8).extractLsb' 8 8 = ent
  revert ent
  decide

theorem witness_set_cur :
    (∀ ent, (classPacket false 1 1 ent).ent = ent) ∧
    (∀ ent, (classPacket false 1 1 ent).type = 1 ∧ (classPacket false 1 1 ent).recipient = 1 ∧
      (classPacket false 1 1 ent).ifn = 0 ∧ (classPacket false 1 1 ent).cs = 1 ∧ (classPacket false 1 1 ent).dir = false ∧
      (classPacket false 1 1 ent).bRequest = 1) := ⟨fun _ => classPacket_ent .., by decide⟩

/-- Recipients 0 and 3, selectors 0 and 3 of the source and 0 of the selector, and SET_CUR of the clock-valid control. For
every two distinct IDs some entity is neither. -/
theorem witness_unknown_class :
    ((packet 0xA0 1 0 0 0).type = 1 ∧ (packet 0xA0 1 0 0 0).recipient ≠ 1 ∧ (packet 0xA0 1 0 0 0).recipient ≠ 2) ∧
    ((packet 0x23 1 0 0 0).type = 1 ∧ (packet 0x23 1 0 0 0).recipient ≠ 1 ∧ (packet 0x23 1 0 0 0).recipient ≠ 2) ∧
    (∀ dir br cs ent, (classPacket dir br cs ent).ent = ent) ∧
    (∀ a b : BitVec 8, ∃ ent ∈ [0#8, 1#8, 2#8], ent ≠ a ∧ ent ≠ b) ∧
    ((classPacket true 1 0 7).type = 1 ∧ (classPacket true 1 0 7).recipient = 1 ∧ (classPacket true 1 0 7).ifn = 0) ∧
    ((classPacket true 1 0 7).cs ≠ 1 ∧ (classPacket true 1 0 7).cs ≠ 2 ∧ (classPacket true 1 3 7).cs ≠ 2) ∧
    ((classPacket false 1 2 7).cs = 2 ∧ (classPacket false 1 2 7).dir = false ∧ (classPacket false 1 2 7).bRequest = 1) := by
  refine ⟨by decide, by decide, classPacket_ent, ?_, by decide, by decide, by decide⟩
  intro a b
  by_contra h
  simp only [List.mem_cons, List.not_mem_nil, or_false, exists_eq_or_imp, exists_eq_left, not_or, not_and_or, not_not] at h
  obtain ⟨h0, h1, h2⟩ := h
  rcases h0 with h0 | h0 <;> rcases h1 with h1 | h1 <;> rcases h2 with h2 | h2 <;> simp [← h0, ← h1] at h1 h2

/-- Interface 2, and the requests SET_RANGE and GET_RANGE. -/
theorem witness_unnamed_class :
    ((packet 0xA1 1 0 2 0).type = 1 ∧ (packet 0xA1 1 0 2 0).recipient = 1 ∧ (packet 0xA1 1 0 2 0).ifn ≠ 0 ∧
      (packet 0xA1 1 0 2 0).ifn ≠ 1) ∧
    (∀ dir br cs ent, (classPacket dir br cs ent).ent = ent) ∧
    ((classPacket false 2 1 7).type = 1 ∧ (classPacket false 2 1 7).recipient = 1 ∧ (classPacket false 2 1 7).ifn = 0) ∧
    ((classPacket false 2 1 7).cs = 1 ∧ ((classPacket false 2 1 7).dir, (classPacket false 2 1 7).bRequest) ∉
      [(true, 0x01), (true, 0x02), (false, 0x01)]) ∧
    ((classPacket true 2 2 7).cs = 2 ∧ ((classPacket true 2 2 7).dir, (classPacket true 2 2 7).bRequest) ∉
      [(true, 0x01), (false, 0x01)]) ∧
    ((classPacket true 2 1 7).cs = 1 ∧ ((classPacket true 2 1 7).dir, (classPacket true 2 1 7).bRequest) ∉
      [(true, 0x01), (false, 0x01)]) :=
  ⟨by decide, classPacket_ent, by decide, by decide, by decide, by decide⟩

theorem witness_current_replies :
    (∀ ent, (classPacket true 1 1 ent).ent = ent) ∧
    (∀ ent, (classPacket true 1 1 ent).type = 1 ∧ (classPacket true 1 1 ent).recipient = 1 ∧
      (classPacket true 1 1 ent).ifn = 0 ∧ (classPacket true 1 1 ent).dir = true ∧ (classPacket true 1 1 ent).cs = 1 ∧
      (classPacket true 1 1 ent).bRequest = 1) := ⟨fun _ => classPacket_ent .., by decide⟩

theorem witness_range_and_validity :
    (∀ br cs ent, (classPacket true br cs ent).ent = ent) ∧
    (∀ ent, (classPacket true 2 1 ent).type = 1 ∧ (classPacket true 2 1 ent).recipient = 1 ∧
      (classPacket true 2 1 ent).ifn = 0 ∧ (classPacket true 2 1 ent).dir = true) ∧
    ((classPacket true 2 1 7).cs = 1 ∧ (classPacket true 2 1 7).bRequest = 2) ∧
    ((classPacket true 1 2 7).cs = 2 ∧ (classPacket true 1 2 7).bRequest = 1) :=
  ⟨fun _ _ _ => classPacket_ent .., by decide, by decide, by decide⟩

theorem witness_every_request :
    (Instr.getDescriptorDevice (packet 0x80 0x06 0x0100 0 18)).packet? = some (packet 0x80 0x06 0x0100 0 18) ∧
    (Instr.uac2AsAny (packet 0x21 0x01 0 1 0)).packet? = some (packet 0x21 0x01 0 1 0) := ⟨rfl, rfl⟩

theorem witness_fresh_setup :
    ((queued .setupRx 8 (counting 8)).ev.rxq = [{ kind := .setupRx, ep := 0, bcnt := 8, data := counting 8 }] ∧
      (counting 8).length = 8) ∧
    (Instr.setAddress (packet 0x00 0x05 5 0 0)).packet? = some (packet 0x00 0x05 5 0 0) := by decide

/-- Eight bytes run; a word that counts 7 or 9, and an entry that holds 7, fault. -/
theorem witness_setup_entry :
    (queued .setupRx 8 (counting 8)).ev.rxq = [{ kind := .setupRx, ep := 0, bcnt := 8, data := counting 8 }] ∧
    ((⟨0, 8, 0, 0⟩ : RxStatus).bcnt = 8 ∧ (counting 8).length = 8) ∧ (⟨0, 7, 0, 0⟩ : RxStatus).bcnt ≠ 8 ∧
    (⟨0, 9, 0, 0⟩ : RxStatus).bcnt ≠ 8 ∧ (counting 7).length ≠ 8 := by decide

theorem witness_bus_reset : (hostReset (inData (counting 64) 64)).ev.rstPending = true := rfl

theorem witness_masked_events :
    ready.ev.rstPending = false ∧ ready.ev.rxq = [] ∧ (State.powerOn exampleParams).ep0.irqUnmasked = false ∧
    (∀ ep : BitVec 4, flagAt ready.ev.iepXfrc ep.toNat = false ∧ flagAt ready.ev.oepXfrc ep.toNat = false ∧
      flagAt ready.ev.oepStup ep.toNat = false) := by decide

/-- A setup entry of 8 bytes, one of 7, one counted as 9, an OUT_DONE entry, and an entry of another kind. -/
theorem witness_rx_pops :
    (queued .setupRx 8 (counting 8)).ev.rxq = [{ kind := .setupRx, ep := 0, bcnt := 8, data := counting 8 }] ∧
    (queued .setupRx 7 (counting 7)).ev.rxq = [{ kind := .setupRx, ep := 0, bcnt := 7, data := counting 7 }] ∧
    (queued .setupRx 9 (counting 8)).ev.rxq = [{ kind := .setupRx, ep := 0, bcnt := 9, data := counting 8 }] ∧
    (queued .outDone 0 []).ev.rxq = [{ kind := .outDone, ep := 0, bcnt := 0, data := [] }] ∧
    (queued .outRx 0 []).ev.rxq = [{ kind := .outRx, ep := 0, bcnt := 0, data := [] }] := by decide

/-- The data phase of EP0 with one byte left, with the ZLP left, with nothing left. -/
theorem witness_in_event :
    ((inData (counting 65) 64).ep0.irqUnmasked = true ∧ (inData (counting 65) 64).ctl.phase = .dataIn ∧
      (inData (counting 65) 64).ctl.buf = some (counting 65) ∧
      (inData (counting 65) 64).ctl.sent < (inData (counting 65) 64).ctl.totalLen ∧
      flagAt (setIepXfrc 0 true (inData (counting 65) 64)).ev.iepXfrc 0 = true) ∧
    ((inData (counting 64) 64).ctl.totalLen ≤ (inData (counting 64) 64).ctl.sent ∧
      ((inData (counting 64) 64).onCtl fun c => { c with zlpPending := true }).ctl.zlpPending = true ∧
      (inData (counting 64) 64).ctl.zlpPending = false) := by decide

/-- EV_OUT: endpoint 0 with its completion in `StatusOut`, endpoint 3, and endpoint 1 with only the setup-done flag. EV_IN:
endpoint 1 in the data phase, and endpoint 0 outside it. -/
theorem witness_out_event :
    (ready.ep0.irqUnmasked = true ∧ flagAt (setOepXfrc 0 true ready).ev.oepXfrc 0 = true ∧ (0 : BitVec 4) ≠ 1 ∧
      (setPhase .statusOut ready).ctl.phase = .statusOut ∧ flagAt (setOepXfrc 3 true ready).ev.oepXfrc 3 = true ∧
      (3 : BitVec 4) ≠ 1 ∧ flagAt (setOepStup 1 true ready).ev.oepStup 1 = true ∧
      flagAt (setOepStup 1 true ready).ev.oepXfrc 1 = false) ∧
    (flagAt (setIepXfrc 1 true (inData (counting 65) 64)).ev.iepXfrc 1 = true ∧ (1 : BitVec 4) ≠ 0) ∧
    (flagAt (setIepXfrc 0 true ready).ev.iepXfrc 0 = true ∧ (setIepXfrc 0 true ready).ctl.phase ≠ .dataIn) := by decide

/-- The audio state at power-on has its lengths and ranges. -/
theorem powerOn_audio (P : Params) (h : P.Wf) : AudioOk P (State.powerOn P).aud := by
  have hb := h.2.2.2.2.2.2.1.2
  have hr : 0 < P.ringCap := by
    rw [← h.2.2.2.2.2.2.2.1]
    exact Nat.two_pow_pos _
  constructor <;> simp [State.powerOn] <;> omega

/-- A full packet, one group, and a re-armed endpoint; a position of the one group, and one that no group covers. -/
theorem witness_pipeline :
    AudioOk Config.params State.reset.aud ∧ (isoPending 192 (counting 4)).ep0.irqUnmasked = true ∧
    flagAt (isoPending 192 (counting 4)).ev.oepXfrc 1 = true ∧
    ((isoPending 0 (List.replicate 196 7)).iso.rem ≤ 196 ∧ 196 - 0 ≤ (List.replicate 196 (7 : Byte)).length) ∧
    ((isoPending 192 (counting 4)).iso.rem ≤ 196 ∧ 196 - 192 ≤ (counting 4).length) ∧
    ((isoPending 196 []).iso.rem ≤ 196 ∧ 196 - 196 ≤ ([] : List Byte).length) ∧
    (1 < 2 * ((196 - 192) / 4) ∧ 2 * ((196 - 192) / 4) ≤ 1 + Config.params.bufSamples) ∧
    (∀ k, k < 2 * ((196 - 192) / 4) → (0 + k) % Config.params.bufSamples ≠ Config.params.bufSamples) :=
  ⟨powerOn_audio _ Config.params_wf, by decide, by decide, ⟨Nat.zero_le _, by rw [List.length_replicate]⟩, by decide, by decide,
    ⟨by decide, by have := Config.params_bufSamples_ge; omega⟩,
    fun k _ => (Nat.mod_lt _ (by have := Config.params_bufSamples_ge; omega)).ne⟩

theorem witness_pipeline_faults :
    (isoPending 197 []).ep0.irqUnmasked = true ∧ flagAt (isoPending 197 []).ev.oepXfrc 1 = true ∧
    196 < (isoPending 197 []).iso.rem ∧ (isoPending 195 []).iso.rem ≤ 196 ∧
    (isoPending 195 []).iso.rxpkt.length < 196 - (isoPending 195 []).iso.rem ∧
    flagAt (isoPending 195 []).ev.oepXfrc 1 = true := by decide

theorem witness_host_reset : ready.fault = none ∧ (hostReset ready).ev.rstPending = true := ⟨rfl, rfl⟩

theorem witness_host_setup : ready.fault = none ∧ (counting 8).length = 8 ∧ (counting 7).length ≠ 8 := by decide

theorem witness_host_out :
    ready.fault = none ∧ 64 < (counting 65).length ∧ (counting 64).length ≤ 64 ∧ (stall0 ready).ep0.outStall = true ∧
    ((State.powerOn exampleParams).ep0.outStall = false ∧ (State.powerOn exampleParams).ep0.outArmed = false) ∧
    (ready.ep0.outStall = false ∧ ready.ep0.outArmed = true) := by decide

theorem witness_host_in :
    ready.fault = none ∧ (stall0 ready).ep0.inStall = true ∧ (ready.ep0.inStall = false ∧ ready.ep0.tx = none) ∧
    ((txPacket0 [] ready).ep0.inStall = false ∧ (txPacket0 [] ready).ep0.tx = some []) := by decide

theorem witness_host_iso :
    ready.fault = none ∧ 196 < (List.replicate 197 (0 : Byte)).length ∧ (List.replicate 196 (0 : Byte)).length ≤ 196 ∧
    ((armIso (ready.onIso fun i => { i with active := true })).iso.active = true ∧
      (armIso (ready.onIso fun i => { i with active := true })).iso.armed = true) ∧
    (armIso ready).iso.active = false ∧ (ready.onIso fun i => { i with active := true }).iso.armed = false :=
  ⟨rfl, by rw [List.length_replicate]; decide, by rw [List.length_replicate], ⟨rfl, rfl⟩, rfl, rfl⟩

theorem witness_timer :
    ready.fault = none ∧ ready.env.clock ≤ 0 ∧ (0 : Nat) < (ready.onEnv fun e => { e with clock := 1 }).env.clock := by decide

/-- A state that meets the invariant and takes a step. -/
theorem witness_step_invariant :
    Invariant (choosing .hostReset (State.powerOn Config.params)) ∧
      ∃ t, step (choosing .hostReset (State.powerOn Config.params)) = .next t := by
  refine ⟨⟨⟨.inl rfl, by decide, by decide, by decide⟩, ⟨.inl rfl, .inl rfl⟩, ⟨by decide⟩, ⟨by decide, by decide⟩,
    ⟨fun _ h => (List.not_mem_nil h).elim, ?_, ?_, ?_⟩, powerOn_audio _ Config.params_wf, ?_, rfl,
    fun _ h => (List.not_mem_nil h).elim⟩, _, rfl⟩
  · exact List.length_replicate
  · exact List.length_replicate
  · exact List.length_replicate
  · intro h
    cases h

/-- A step that changes the phase by each of the four transitions. -/
theorem witness_phase_changes :
    (∃ t, step (choosing (.event 0x00) (hostReset (inData (counting 64) 64))) = .next t ∧ t.ctl.phase ≠ .dataIn) ∧
    (∃ t, step (setupPending [0x80, 0x00, 0, 0, 0, 0, 2, 0]) = .next t ∧ t.ctl.phase ≠ .idle) ∧
    (∃ t, step (choosing (.event 0x20) (setIepXfrc 0 true (inData (counting 64) 64))) = .next t ∧ t.ctl.phase ≠ .dataIn) ∧
    (∃ t, step (choosing (.event 0x30) (setOepXfrc 0 true (setPhase .statusOut ready))) = .next t ∧
      t.ctl.phase ≠ .statusOut) :=
  ⟨⟨_, rfl, by decide⟩, ⟨_, rfl, by decide⟩, ⟨_, rfl, by decide⟩, ⟨_, rfl, by decide⟩⟩

/-- SET_ADDRESS(5), and a bus reset of a device with an address. -/
theorem witness_address_changes :
    (∃ t, step (setupPending [0x00, 0x05, 5, 0, 0, 0, 0, 0]) = .next t ∧ t.dev.devAddr ≠ 0) ∧
    (∃ t, step (choosing (.event 0x00) (hostReset (ready.onDev fun d => { d with devAddr := 5 }))) = .next t ∧
      t.dev.devAddr ≠ 5) := ⟨⟨_, rfl, by decide⟩, ⟨_, rfl, by decide⟩⟩

/-- SET_CONFIGURATION(1) and SET_INTERFACE(1, 1). -/
theorem witness_configuration_changes :
    (∃ t, step (setupPending [0x00, 0x09, 1, 0, 0, 0, 0, 0]) = .next t ∧ t.dev.config ≠ 0 ∧ t.iso.active ≠ false) ∧
    (∃ t, step (setupPending [0x01, 0x0B, 1, 0, 1, 0, 0, 0]) = .next t ∧ t.dev.asAlt ≠ 0 ∧ t.iso.mps ≠ 0) :=
  ⟨⟨_, rfl, by decide, by decide⟩, ⟨_, rfl, by decide, by decide⟩⟩

theorem witness_some_step : ∃ t, step (choosing (.tick 1) ready) = .next t := ⟨_, rfl⟩

/-- One step of the pipeline writes a timestamp over another. -/
theorem witness_audio_written :
    ∃ t, step (choosing (.event 0x31) ((isoPending 196 []).onAud fun a => { a with ring := [1, 0, 0, 0] })) = .next t ∧
      t.aud ≠ ((isoPending 196 []).onAud fun a => { a with ring := [1, 0, 0, 0] }).aud := by
  refine ⟨_, rfl, ?_⟩
  intro h
  have h0 := congrArg (fun a : Audio => a.ring.head?) h
  have h1 : some (0 % 2 ^ Config.params.tsBits) = some 1 := h0
  simp at h1

/-- Both stall bits set, then the host's SETUP, or a bus reset. -/
theorem witness_stall_cleared :
    (∃ t, step (choosing (.hostSetup (counting 8)) (stall0 ready)) = .next t ∧ (stall0 ready).ep0.inStall = true ∧
      t.ep0.inStall = false) ∧
    (∃ t, step (choosing (.event 0x00) (hostReset (stall0 ready))) = .next t ∧
      (hostReset (stall0 ready)).ep0.outStall = true ∧ t.ep0.outStall = false) :=
  ⟨⟨_, rfl, rfl, rfl⟩, ⟨_, rfl, rfl, rfl⟩⟩

/-- A step of the host that appends to the log: a stalled IN token, a taken packet, a stalled OUT packet. -/
theorem witness_host_log :
    (∃ t, step (choosing .hostIn0 (stall0 ready)) = .next t ∧ t.hostLog = [.stallIn]) ∧
    (∃ t, step (choosing .hostIn0 (txPacket0 [1] ready)) = .next t ∧ t.hostLog = [.pkt [1]]) ∧
    (∃ t, step (choosing (.hostOut0 []) (stall0 ready)) = .next t ∧ t.hostLog = [.stallOut]) :=
  ⟨⟨_, rfl, rfl⟩, ⟨_, rfl, rfl⟩, ⟨_, rfl, rfl⟩⟩

theorem witness_unread_registers : ∃ t, exec (.setAddress (packet 0x00 0x05 5 0 0)) ready = .next t := ⟨_, rfl⟩

/-- 64 bytes take two packets, 65 bytes take two, 1 byte takes one. -/
theorem witness_trailing_zlp :
    0 < 64 ∧ 64 ≤ (counting 64).length ∧ ready.fault = none ∧ ready.ep0.inStall = false ∧ ready.ep0.irqUnmasked = true ∧
    0 < ready.ev.iepXfrc.length ∧ (dataPackets (counting 64) 64).length = 2 ∧ 65 ≤ (counting 65).length ∧
    (dataPackets (counting 65) 65).length = 2 ∧ 1 ≤ (counting 1).length ∧ (dataPackets (counting 1) 1).length = 1 ∧
    ({ ready with schedule := takePackets 2 ++ [] } : State).schedule = takePackets 2 ++ [] := by decide

/-- Each of the six tables is served by its request; the lengths 0, 18 and 64 of the device request and of a longer table. -/
theorem witness_data_packets :
    Serves Config.params (packet 0x80 0x06 0x0100 0 18) (.getDescriptorDevice (packet 0x80 0x06 0x0100 0 18))
      Config.params.devDesc 18 ∧
    Serves Config.params (packet 0x80 0x06 0x0200 0 64) (.getDescriptorConfiguration (packet 0x80 0x06 0x0200 0 64))
      Config.params.cfgDesc Config.params.cfgDesc.length ∧
    Serves Config.params (packet 0x80 0x06 0x0600 0 10) (.getDescriptorQualifier (packet 0x80 0x06 0x0600 0 10))
      Config.params.qualDesc Config.params.qualDesc.length ∧
    (packet 0x80 0x06 0x0300 0 255).dindex = 0 ∧ (packet 0x80 0x06 0x0301 0 255).dindex = 1 ∧
    (packet 0x80 0x06 0x0302 0 255).dindex = 2 ∧
    ready.fault = none ∧ ready.ep0.inStall = false ∧ ready.ep0.irqUnmasked = true ∧ 0 < ready.ev.iepXfrc.length ∧
    ({ ready with schedule := takePackets (min 18 18 / 64 + 1) ++ [] } : State).schedule =
      takePackets (min 18 18 / 64 + 1) ++ [] ∧
    min 0 18 % 64 = 0 ∧ min 18 18 % 64 ≠ 0 ∧ min 64 127 % 64 = 0 :=
  ⟨.device, .configuration, .qualifier, by decide, by decide, by decide, rfl, rfl, rfl, by decide, rfl, by decide, by decide,
    by decide⟩

end Sys2Proof.Tests
end

section
/-! PROOFS. The control sequencer, first part: what the sequencer's operations and the events do to the control state
(41_control_sequencer.md R151, R155, R156, R158), in the form the statements about the data phase, the SETUP stage and the
phase use. -/

namespace Sys2Proof.Machine

/-! The packet step, one equation per arm (41_control_sequencer.md R155). -/

theorem sendStep_of_sent_lt (s : State) (h : s.ctl.sent < s.ctl.totalLen) :
    sendStep s = { s with
      ctl := afterPacket (min (s.ctl.totalLen - s.ctl.sent) 64) s.ctl
      ep0 := { s.ep0 with tx := some (nextPacket s.ctl) } } := by
  obtain ⟨_, e⟩ | ⟨h', _⟩ | ⟨h', _⟩ := sendStep_cases s
  · exact e
  · omega
  · omega

theorem sendStep_of_zlpPending (s : State) (h : s.ctl.totalLen ≤ s.ctl.sent) (hz : s.ctl.zlpPending = true) :
    sendStep s = { s with ctl := { s.ctl with zlpPending := false }, ep0 := { s.ep0 with tx := some [] } } := by
  obtain ⟨h', _⟩ | ⟨_, _, e⟩ | ⟨_, hz', _⟩ := sendStep_cases s
  · omega
  · exact e
  · simp [hz] at hz'

theorem sendStep_of_all_sent (s : State) (h : s.ctl.totalLen ≤ s.ctl.sent) (hz : s.ctl.zlpPending = false) :
    sendStep s = { s with ctl := { s.ctl with phase := .statusOut }, ep0 := { s.ep0 with outArmed := true } } := by
  obtain ⟨h', _⟩ | ⟨_, hz', _⟩ | ⟨_, _, e⟩ := sendStep_cases s
  · omega
  · simp [hz] at hz'
  · exact e

/-- The packet step leaves the data phase only for `StatusOut`. -/
theorem sendStep_phase (s : State) : (sendStep s).ctl.phase = s.ctl.phase ∨ (sendStep s).ctl.phase = .statusOut := by
  obtain ⟨_, e⟩ | ⟨_, _, e⟩ | ⟨_, _, e⟩ := sendStep_cases s <;> rw [e]
  · exact .inl rfl
  · exact .inl rfl
  · exact .inr rfl

/-! The endpoint events, when they are enabled. -/

/-- EV_IN of EP0 in the data phase clears the flag and runs the packet step (46_event_dispatch.md R338). -/
theorem exec_evIn_zero_of_dataIn (s : State) (hu : s.ep0.irqUnmasked = true) (hf : flagAt s.ev.iepXfrc 0 = true)
    (hp : s.ctl.phase = .dataIn) : exec (.evIn 0) s = .next (sendStep (setIepXfrc 0 false s)) := by
  simp [exec, execEvIn, inEnabled, hu, hf, onInEp, onInDone0, hp]

/-- Clearing a flag that is not set writes nothing. -/
theorem set_false_of_flagAt_false (fs : List Bool) (ep : Nat) (h : flagAt fs ep = false) : fs.set ep false = fs := by
  by_cases hl : ep < fs.length
  · have hv : fs[ep] = false := by simpa [flagAt, hl] using h
    rw [← hv, List.set_getElem_self]
  · exact List.set_eq_of_length_le (by omega)

/-! The SETUP stage (41_control_sequencer.md R151). -/

/-- A request is the SETUP stage of its packet with a handler of its own. -/
theorem exec_request (i : Instr) (p : SetupPacket) (h : i.packet? = some p) :
    ∃ handler : State → State, ∀ s, exec i s = .next (onSetup p handler s) := by
  cases i <;> simp only [Instr.packet?, Option.some.injEq, reduceCtorEq] at h <;> subst h <;>
    exact ⟨_, fun _ => rfl⟩

/-- The SETUP stage overwrites the packet, the phase and the lengths it interrupts. -/
theorem onSetup_overrides (p q : SetupPacket) (handler : State → State) (s : State) (ph : Phase) (n m : Nat) :
    onSetup p handler { s with ctl := { s.ctl with setup := q, phase := ph, totalLen := n, sent := m } } =
      onSetup p handler s := rfl

/-- A request records its packet, and its lengths and the send buffer stand unless a data phase starts. -/
theorem RequestOutcome.recorded {i : Instr} {p : SetupPacket} {s t : State} (h : RequestOutcome i p s t) :
    t.ctl.setup = p ∧
      (t.ctl.phase ≠ .dataIn →
        t.ctl.totalLen = p.wLength.toNat ∧ t.ctl.sent = 0 ∧ t.ctl.buf = s.ctl.buf ∧
          t.ctl.zlpPending = s.ctl.zlpPending) := by
  cases h
  case data => exact ⟨rfl, fun hp => absurd rfl hp⟩
  all_goals exact ⟨rfl, fun _ => ⟨rfl, rfl, rfl, rfl⟩⟩

/-- A request leaves one of the three phases of 10_state.md R69. -/
theorem RequestOutcome.phase {i : Instr} {p : SetupPacket} {s t : State} (h : RequestOutcome i p s t) :
    t.ctl.phase = .idle ∨ t.ctl.phase = .dataIn ∨ t.ctl.phase = .statusOut := by
  cases h
  case stall => exact .inl rfl
  case data => exact .inr (.inl rfl)
  all_goals exact .inr (.inr rfl)

/-- EV_RX on a setup entry of 8 bytes runs the request it decodes to (46_event_dispatch.md R333). -/
theorem exec_evRx_setup (s : State) (e : RxEntry) (q : List RxEntry) (hq : s.ev.rxq = e :: q) (hk : e.kind = .setupRx)
    (hb : e.bcnt = 8) (hd : e.data.length = 8) :
    exec .evRx s = exec (decodeSetup Config.params (parsePacket e.data)) s.popped := by
  have harm : exec .evRx s = runRequest (decodeSetup Config.params (parsePacket e.data)) (popRx s) := by
    simp [exec, execEvRx, hq, hk, setupArm, hb, hd]
  rw [harm, runRequest_eq_exec _ _ (decodeSetup_isRequest _ _)]
  rfl

/-! Which steps can change the phase (41_control_sequencer.md R150). -/

@[simp] theorem hostOut0_ctl (d : List Byte) (s : State) : (hostOut0 d s).ctl = s.ctl := by
  unfold hostOut0
  split_ifs <;> rfl

@[simp] theorem hostIn0_ctl (s : State) : (hostIn0 s).ctl = s.ctl := by
  unfold hostIn0
  split
  · rfl
  · split <;> rfl

@[simp] theorem hostIso_ctl (d : List Byte) (s : State) : (hostIso d s).ctl = s.ctl := by
  unfold hostIso
  split <;> rfl

@[simp] theorem tick_ctl (n : Nat) (s : State) : (tick n s).ctl = s.ctl := by
  unfold tick
  split <;> rfl

/-- Only the block writes the control state: the other agents' steps leave it. -/
theorem act_ctl_of_not_event (a : Action) (s t : State) (ha : ∀ e, a ≠ .event e) (h : act exec a s = .next t) :
    t.ctl = s.ctl := by
  cases a with
  | event e => exact absurd rfl (ha e)
  | hostSetup p =>
    simp only [act] at h
    split at h <;> cases h
    rfl
  | hostOut0 d =>
    simp only [act] at h
    split at h <;> cases h
    exact hostOut0_ctl d s
  | hostIso d =>
    simp only [act] at h
    split at h <;> cases h
    exact hostIso_ctl d s
  | hostIn0 => cases h; exact hostIn0_ctl s
  | tick n => cases h; exact tick_ctl n s
  | hostReset | toggle _ | consume _ => cases h; rfl

theorem evReset_phase (s t : State) (h : exec .evReset s = .next t) : t.ctl.phase = s.ctl.phase ∨ t.ctl.phase = .idle := by
  rw [← Host.Outcome.next.inj h]
  split
  · exact .inr rfl
  · exact .inl rfl

theorem evRx_phase (s t : State) (h : exec .evRx s = .next t) :
    t.ctl.phase = s.ctl.phase ∨
      ((headSetup s).isSome = true ∧ (t.ctl.phase = .idle ∨ t.ctl.phase = .dataIn ∨ t.ctl.phase = .statusOut)) := by
  obtain ⟨_, rfl⟩ | ⟨e, q, _, ⟨_, _, _, hh, ho⟩ | ⟨_, _, rfl⟩ | ⟨_, rfl⟩ | ⟨_, _, rfl⟩⟩ := evRx_cases s t h
  · exact .inl rfl
  · exact .inr ⟨by rw [hh]; rfl, ho.phase⟩
  all_goals exact .inl rfl

theorem evIn_phase (ep : BitVec 4) (s t : State) (h : exec (.evIn ep) s = .next t) :
    t.ctl.phase = s.ctl.phase ∨ (ep = 0 ∧ s.ctl.phase = .dataIn ∧ t.ctl.phase = .statusOut) := by
  obtain ⟨_, rfl⟩ | ⟨_, ⟨h0, hp, rfl⟩ | ⟨_, rfl⟩⟩ := evIn_cases ep s t h
  · exact .inl rfl
  · exact (sendStep_phase (setIepXfrc 0 false s)).imp id fun hs => ⟨h0, hp, hs⟩
  · exact .inl rfl

theorem evOut_phase (ep : BitVec 4) (s t : State) (h : exec (.evOut ep) s = .next t) :
    t.ctl.phase = s.ctl.phase ∨ (ep = 0 ∧ s.ctl.phase = .statusOut ∧ t.ctl.phase = .idle) := by
  obtain ⟨_, rfl⟩ | ⟨_, ⟨_, _, ⟨_, _, rfl⟩ | ⟨_, rfl⟩⟩ | ⟨_, h0, hp, rfl⟩ | ⟨_, _, _, rfl⟩ | ⟨_, rfl⟩⟩ :=
    evOut_cases ep s t h
  · exact .inl rfl
  · exact .inl rfl
  · exact .inl rfl
  · exact .inr ⟨h0, hp, rfl⟩
  · exact .inl rfl
  · exact .inl rfl

end Sys2Proof.Machine
end

section
/-! PROOFS. The control sequencer, second part: a data phase whose every packet the host takes
(41_control_sequencer.md R159). -/

namespace Sys2Proof.Machine

/-- Packet `k` of a data phase of the first `n` bytes of `d`; past the data it is empty, so that packet `n / 64` is the
trailing ZLP where 64 divides `n`. -/
def packetAt (d : List Byte) (n k : Nat) : List Byte := slice d (64 * k) (min 64 (n - 64 * k))

/-- The packets of a data phase are the packets 0 to `n / 64`, the ZLP among them. -/
theorem dataPackets_eq_map_packetAt (d : List Byte) (n : Nat) :
    dataPackets d n = (List.range (n / 64 + 1)).map (packetAt d n) := by
  unfold dataPackets
  by_cases h : n % 64 = 0
  · have hc : (n + 63) / 64 = n / 64 := by omega
    have hz : packetAt d n (n / 64) = [] := by simp [packetAt, slice, show n - 64 * (n / 64) = 0 by omega]
    rw [if_pos h, hc, List.range_succ, List.map_append, List.map_singleton, hz]
    rfl
  · have hc : (n + 63) / 64 = n / 64 + 1 := by omega
    rw [if_neg h, hc, List.append_nil]
    rfl

theorem dataPackets_length (d : List Byte) (n : Nat) : (dataPackets d n).length = n / 64 + 1 := by
  simp [dataPackets_eq_map_packetAt]

/-- The state in which packet `k` of the data phase is loaded and the host has not taken it yet. -/
def State.sending (d : List Byte) (n k : Nat) (s : State) : State :=
  { s with
    ctl := { s.ctl with
      phase := .dataIn, buf := some d, totalLen := n, sent := min n (64 * (k + 1)), zlpPending := decide (n = 64 * (k + 1)) }
    ep0 := { s.ep0 with tx := some (packetAt d n k) } }

/-- `Send` loads packet 0 (41_control_sequencer.md R154). -/
theorem send_eq_sending (d : List Byte) (n : Nat) (s : State) (hn : 0 < n) : send (some d) n s = s.sending d n 0 := by
  rw [send_data d n s hn]
  simp [State.sending, packetAt, slice, Nat.min_comm]

/-- The state at the end of the data phase (41_control_sequencer.md R155). -/
def State.dataDone (d : List Byte) (n : Nat) (s : State) : State :=
  { s with
    ctl := { s.ctl with phase := .statusOut, buf := some d, totalLen := n, sent := n, zlpPending := false }
    ep0 := { s.ep0 with tx := none, outArmed := true } }

/-- Packet `k` is taken and its completion handled, and more is to come: packet `k + 1` is loaded. -/
theorem onInDone0_taken_sending (d q : List Byte) (n k : Nat) (rest : List Action) (s : State) (hk : 64 * (k + 1) ≤ n) :
    onInDone0 ((s.sending d n k).taken q rest) = (s.taken q rest).sending d n (k + 1) := by
  have hstep : onInDone0 ((s.sending d n k).taken q rest) = sendStep ((s.sending d n k).taken q rest) := if_pos rfl
  have hsent : min n (64 * (k + 1)) = 64 * (k + 1) := by omega
  rw [hstep]
  by_cases hlast : n = 64 * (k + 1)
  · rw [sendStep_of_zlpPending]
    · subst hlast
      simp [State.sending, State.taken, packetAt, slice]
    · simp [State.sending, State.taken, hlast]
    · simp [State.sending, State.taken, hlast]
  · rw [sendStep_of_sent_lt]
    · have hnext : 64 * (k + 1) + min (n - 64 * (k + 1)) 64 = min n (64 * (k + 1 + 1)) := by omega
      have hzlp : (min (n - 64 * (k + 1)) 64 = 64 ∧ min n (64 * (k + 1 + 1)) = n) ↔ n = 64 * (k + 1 + 1) := by omega
      simp only [State.sending, State.taken, afterPacket, nextPacket, packetAt, Config.ep0Mps, Option.getD_some, hsent,
        hnext, hzlp, hlast, decide_false, Nat.min_comm 64, Bool.if_false_right, Bool.and_true]
    · simp only [State.sending, State.taken]
      omega

/-- The last packet is taken and its completion handled: the data phase ends. -/
theorem onInDone0_taken_last (d q : List Byte) (n k : Nat) (rest : List Action) (s : State) (hk : n < 64 * (k + 1)) :
    onInDone0 ((s.sending d n k).taken q rest) = (s.taken q rest).dataDone d n := by
  have hstep : onInDone0 ((s.sending d n k).taken q rest) = sendStep ((s.sending d n k).taken q rest) := if_pos rfl
  have hsent : min n (64 * (k + 1)) = n := by omega
  have hz : n ≠ 64 * (k + 1) := by omega
  rw [hstep, sendStep_of_all_sent]
  · simp [State.sending, State.taken, State.dataDone, hsent, hz]
  · simp [State.sending, State.taken, hsent]
  · simp [State.sending, State.taken, hz]

/-- The host can take an IN packet of EP0 and its completion is dispatched. -/
structure InServed (s : State) : Prop where
  fault : s.fault = none
  inStall : s.ep0.inStall = false
  unmasked : s.ep0.irqUnmasked = true
  flags : 0 < s.ev.iepXfrc.length

theorem InServed.taken {s : State} (h : InServed s) (q : List Byte) (rest : List Action) : InServed (s.taken q rest) :=
  ⟨h.fault, h.inStall, h.unmasked, by simpa [State.taken] using h.flags⟩

/-- Two steps from a loaded packet: the host takes it and the block continues the data phase. -/
theorem run_sending (s : State) (d : List Byte) (n k : Nat) (rest : List Action) (h : InServed s)
    (hc : s.schedule = .hostIn0 :: .event 0x20 :: rest) :
    Host.Core.run Sys2Proof.core 2 (s.sending d n k) =
      .next (onInDone0 ((s.sending d n k).taken (packetAt d n k) rest)) :=
  run_taken (s.sending d n k) (packetAt d n k) rest h.fault h.inStall h.unmasked h.flags rfl hc

/-- The host takes the packets from `k` to the last, `k + m`, and the data phase ends. -/
theorem run_data_phase (d : List Byte) (n m : Nat) (rest : List Action) (k : Nat) (s : State) (h : InServed s)
    (hm : n / 64 = k + m) (hc : s.schedule = takePackets (m + 1) ++ rest) :
    ∃ t, Host.Core.run Sys2Proof.core (2 * (m + 1)) (s.sending d n k) = .next t ∧
      t.hostLog = s.hostLog ++ ((List.range' k (m + 1)).map (packetAt d n)).map .pkt ∧
      t.ctl.phase = .statusOut ∧ t.ctl.sent = n ∧ t.ctl.zlpPending = false ∧
      t.ep0.outArmed = true ∧ t.ep0.tx = none ∧ t.schedule = rest ∧ flagAt t.ev.iepXfrc 0 = false := by
  induction m generalizing k s with
  | zero =>
    refine ⟨_, run_sending s d n k rest h hc, ?_⟩
    rw [onInDone0_taken_last d _ n k rest s (by omega)]
    exact ⟨rfl, rfl, rfl, rfl, rfl, rfl, rfl, by simp [State.dataDone, State.taken, flagAt, h.flags]⟩
  | succ m ih =>
    have hrun := run_sending s d n k (takePackets (m + 1) ++ rest) h hc
    rw [onInDone0_taken_sending d _ n k _ s (by omega)] at hrun
    obtain ⟨t, ht, hlog, hend⟩ := ih (k + 1) _ (h.taken (packetAt d n k) (takePackets (m + 1) ++ rest)) (by omega) rfl
    refine ⟨t, ?_, ?_, hend⟩
    · rw [show 2 * (m + 1 + 1) = 2 + 2 * (m + 1) by omega, run_add, hrun]
      exact ht
    · rw [hlog, List.range'_succ (n := m + 1)]
      simp [State.taken]

end Sys2Proof.Machine
end

section
/-! PROOFS. The statements about the control sequencer. -/

namespace Sys2Proof.Machine

/-- Settles O58, by induction on the packets the host has still to take. -/
theorem trailingZlpLaw : Obligations.TrailingZlpLaw := by
  intro s d n rest hn _ hf hs hu hl hc
  rw [dataPackets_length] at hc ⊢
  rw [send_eq_sending d n s hn, dataPackets_eq_map_packetAt, List.range_eq_range']
  exact run_data_phase d n (n / 64) rest 0 s ⟨hf, hs, hu, hl⟩ (by omega) hc

/-- Settles O50: the environment writes no control state, and each event moves the phase as the phase table says. -/
theorem phaseChangesOnlyByItsTransitions : Obligations.PhaseChangesOnlyByItsTransitions := by
  intro s t h hne
  obtain ⟨_, ⟨_, rfl⟩ | ⟨a, c, n, ha, hact⟩⟩ := step_cases s t h
  · exact absurd rfl hne
  by_cases hev : ∃ e, a = .event e
  · obtain ⟨e, rfl⟩ := hev
    rw [ha]
    obtain ⟨rfl, hx⟩ | ⟨rfl, hx⟩ | ⟨ep, rfl, _, hx⟩ | ⟨ep, rfl, _, hx⟩ := event_cases e _ t hact
    · exact .inl ⟨rfl, (evReset_phase _ t hx).resolve_left hne⟩
    · exact .inr (.inl ⟨rfl, (evRx_phase _ t hx).resolve_left hne⟩)
    · obtain ⟨rfl, hp⟩ := (evIn_phase ep _ t hx).resolve_left hne
      exact .inr (.inr (.inl ⟨rfl, hp⟩))
    · obtain ⟨rfl, hp⟩ := (evOut_phase ep _ t hx).resolve_left hne
      exact .inr (.inr (.inr ⟨rfl, hp⟩))
  · have hctl := act_ctl_of_not_event a _ t (fun e he => hev ⟨e, he⟩) hact
    exact absurd (congrArg Control.phase hctl) hne

/-- Settles O31: a request is the SETUP stage of its packet, which overwrites what it interrupts. -/
theorem freshSetupOverridesAnyPhase : Obligations.FreshSetupOverridesAnyPhase := by
  refine ⟨exec_evRx_setup, fun i p s hi => ⟨fun q ph n m => ?_, ?_⟩⟩
  · obtain ⟨handler, hx⟩ := exec_request i p hi
    rw [hx, hx, onSetup_overrides]
  · obtain ⟨t, ht, ho⟩ := request_cases i p s hi
    exact ⟨t, ht, ho.recorded⟩

/-- Settles O37, by the three arms of the packet step after the flag is cleared. -/
theorem inEventContinuesTheDataPhase : Obligations.InEventContinuesTheDataPhase := by
  intro s hu hf hp
  rw [exec_evIn_zero_of_dataIn s hu hf hp]
  refine ⟨fun b hb hlt => ?_, fun hle hz => ?_, fun hle hz => ?_⟩
  · rw [sendStep_of_sent_lt (setIepXfrc 0 false s) hlt]
    simp [setIepXfrc, State.onEv, afterPacket, nextPacket, slice, hb]
  · rw [sendStep_of_zlpPending (setIepXfrc 0 false s) hle hz]
    rfl
  · rw [sendStep_of_all_sent (setIepXfrc 0 false s) hle hz]
    rfl

/-- Settles O38, by what EV_OUT and EV_IN leave; a completion flag that is not set keeps its value. -/
theorem outEventClosesTheTransaction : Obligations.OutEventClosesTheTransaction := by
  intro s ep hu
  refine ⟨fun hpend hiso => ?_, fun hf hout => ?_⟩
  · have hen : outEnabled ep.toNat s = true := by simpa [outEnabled, hu] using hpend
    obtain ⟨hoff, _⟩ | ⟨_, ⟨hx, h1, _⟩ | ⟨hx, h0, hp, e⟩ | ⟨hx, _, hn, e⟩ | ⟨hx, e⟩⟩ := evOut_cases ep s _ rfl
    · simp [hen] at hoff
    · exact absurd h1 (hiso.resolve_right (by simp [hx]))
    · subst h0
      refine congrArg Host.Outcome.next (e.trans ?_)
      rw [if_pos ⟨rfl, hx, hp⟩]
      rfl
    · refine congrArg Host.Outcome.next (e.trans ?_)
      rw [if_neg (by tauto)]
      rfl
    · refine congrArg Host.Outcome.next (e.trans ?_)
      rw [if_neg (by simp [hx]), set_false_of_flagAt_false _ _ hx]
      rfl
  · have hen : inEnabled ep.toNat s = true := by simp [inEnabled, hu, hf]
    obtain ⟨hoff, _⟩ | ⟨_, ⟨h0, hp, _⟩ | ⟨_, e⟩⟩ := evIn_cases ep s _ rfl
    · simp [hen] at hoff
    · tauto
    · exact congrArg Host.Outcome.next e

end Sys2Proof.Machine
end

section
/-! PROOFS. The standard, vendor and reserved-type requests: the step that runs a received request
(46_event_dispatch.md R332, R333), the routes of the vendor and reserved types (30_encoding.md R117), and what a request
leaves, group by group (41_control_sequencer.md R162). -/

namespace Sys2Proof.Machine

/-! The step that runs a received request. -/

/-- A step without a fault whose choice is already made is that agent's step (46_event_dispatch.md R330). -/
theorem step_of_scheduled (s : State) (a : Action) (rest : List Action) (hf : s.fault = none)
    (hc : s.schedule = a :: rest) : step s = act exec a { s with schedule := rest } := by
  simp [step, frontEnd, hf, nextAction, hc]

/-- The event word `0x10` is EV_RX (30_encoding.md R120). -/
theorem act_rx (s : State) : act exec (.event 0x10) s = exec .evRx s := rfl

/-- Bytes decode to a request exactly if they are 8, and to the request of their packet (30_encoding.md R111, R117). -/
theorem decode_setup_eq_ok_iff (P : Params) (b : List Byte) (i : Instr) :
    decode P .setup b = .ok i ↔ b.length = 8 ∧ decodeSetup P (parsePacket b) = i := by
  by_cases h : b.length = 8
  · simp [decode, h]
  · simp [decode, h]

/-- The state without its head entry, where that entry is named. -/
theorem popped_eq_of_cons (s : State) (e : RxEntry) (q : List RxEntry) (hq : s.ev.rxq = e :: q) :
    s.popped = { s with ev := { s.ev with rxq := q } } := by
  simp [State.popped, hq]

/-! The routes of the vendor and the reserved type. -/

theorem decodeSetup_of_vendor (P : Params) (p : SetupPacket) (h : p.type = 2) : decodeSetup P p = decodeVendor p := by
  simp [decodeSetup, h]

theorem decodeSetup_of_reserved (P : Params) (p : SetupPacket) (h : p.type = 3) : decodeSetup P p = .reservedType p := by
  simp [decodeSetup, h]

/-! What a request leaves. -/

/-- No request writes these registers and groups. -/
theorem RequestOutcome.frame {i : Instr} {p : SetupPacket} {s t : State} (h : RequestOutcome i p s t) :
    t.ep0.outArmed = s.ep0.outArmed ∧ t.ep0.irqUnmasked = s.ep0.irqUnmasked ∧
      t.ctl.pendingAddress = s.ctl.pendingAddress ∧ t.ctl.addressPending = s.ctl.addressPending ∧
      t.iso.rxpkt = s.iso.rxpkt ∧ t.ev = s.ev ∧ t.clk = s.clk ∧ t.aud = s.aud ∧ t.fault = s.fault ∧
      t.hostLog = s.hostLog ∧ t.env = s.env ∧ t.schedule = s.schedule ∧ t.drawn = s.drawn := by
  cases h <;> exact ⟨rfl, rfl, rfl, rfl, rfl, rfl, rfl, rfl, rfl, rfl, rfl, rfl, rfl⟩

/-- The requests that write a device register or the isochronous endpoint (42_standard_requests.md R192, R195, R196). -/
theorem RequestOutcome.writers {i : Instr} {p : SetupPacket} {s t : State} (h : RequestOutcome i p s t) :
    (t.dev.devAddr = s.dev.devAddr ∨ i = .setAddress p) ∧
      (t.dev.config = s.dev.config ∨ i = .setConfiguration p) ∧
      (t.dev.asAlt = s.dev.asAlt ∨ i = .setInterface p) ∧
      (t.iso = s.iso ∨ i = .setInterface p ∨ (i = .setConfiguration p ∧ t.iso = { s.iso with active := true })) := by
  cases h with
  | stall | data | ack => exact ⟨.inl rfl, .inl rfl, .inl rfl, .inl rfl⟩
  | address hi => exact ⟨.inr hi, .inl rfl, .inl rfl, .inl rfl⟩
  | unconfigure hi => exact ⟨.inl rfl, .inr hi, .inl rfl, .inl rfl⟩
  | configure hi => exact ⟨.inl rfl, .inr hi, .inl rfl, .inr (.inr ⟨hi, rfl⟩)⟩
  | disable hi | enable hi => exact ⟨.inl rfl, .inl rfl, .inr hi, .inr (.inl hi)⟩

/-- A request ends in a stall, a zero-length send or a data send, which its phase tells apart
(41_control_sequencer.md R152, R154, R157, R162). -/
theorem RequestOutcome.ending {i : Instr} {p : SetupPacket} {s t : State} (h : RequestOutcome i p s t) :
    (t.ctl.phase = .idle ∧ t.ctl.totalLen = p.wLength.toNat ∧ t.ctl.sent = 0 ∧ t.ctl.buf = s.ctl.buf ∧
        t.ctl.zlpPending = s.ctl.zlpPending ∧
        t.ep0.inStall = true ∧ t.ep0.outStall = true ∧ t.ep0.tx = s.ep0.tx ∧ t.dev = s.dev ∧ t.iso = s.iso) ∨
      (t.ctl.phase = .statusOut ∧ t.ctl.totalLen = p.wLength.toNat ∧ t.ctl.sent = 0 ∧ t.ctl.buf = s.ctl.buf ∧
        t.ctl.zlpPending = s.ctl.zlpPending ∧
        t.ep0.inStall = s.ep0.inStall ∧ t.ep0.outStall = s.ep0.outStall ∧ t.ep0.tx = some []) ∨
      (∃ d n, t.ctl.phase = .dataIn ∧ t.ctl.buf = some d ∧ t.ctl.totalLen = n ∧ 0 < n ∧ n ≤ d.length ∧
        t.ctl.sent = min n 64 ∧ t.ctl.zlpPending = decide (n = 64) ∧
        t.ep0.inStall = s.ep0.inStall ∧ t.ep0.outStall = s.ep0.outStall ∧ t.ep0.tx = some (d.take (min n 64)) ∧
        t.dev = s.dev ∧ t.iso = s.iso) := by
  cases h with
  | stall => exact .inl ⟨rfl, rfl, rfl, rfl, rfl, rfl, rfl, rfl, rfl, rfl⟩
  | data d n pos fits => exact .inr (.inr ⟨d, n, rfl, rfl, rfl, pos, fits, rfl, rfl, rfl, rfl, rfl, rfl, rfl⟩)
  | ack | address | unconfigure | configure | disable | enable =>
    exact .inr (.inl ⟨rfl, rfl, rfl, rfl, rfl, rfl, rfl, rfl⟩)

/-! The statements. -/

/-- Settles O30, by the outcomes of a request: their common frame, their writers and the phase each ends in. -/
theorem everyRequestSendsOnceOrStalls : Obligations.EveryRequestSendsOnceOrStalls := by
  intro i p s hi
  obtain ⟨t, ht, ho⟩ := request_cases i p s hi
  refine ⟨t, ht, ho.recorded.1, ?_⟩
  simpa only [and_assoc] using And.intro ho.frame (And.intro ho.writers ho.ending)

/-- Settles O8: the choice is EV_RX, which pops the entry and runs the request of its 8 bytes. -/
theorem stepRunsTheDecodedRequest : Obligations.StepRunsTheDecodedRequest := by
  intro s rest e q i hf hc hq hk hb hd
  obtain ⟨hlen, rfl⟩ := (decode_setup_eq_ok_iff _ _ _).mp hd
  rw [step_of_scheduled s _ rest hf hc, act_rx, exec_evRx_setup { s with schedule := rest } e q hq hk hb hlen,
    popped_eq_of_cons { s with schedule := rest } e q hq]

/-- Settles O18: the decoder routes both by type, and their handler is the stall. -/
theorem unknownVendorCodesAndReservedTypeStall : Obligations.UnknownVendorCodesAndReservedTypeStall := by
  refine ⟨fun p ht hb => ?_, decodeSetup_of_reserved _, fun p s => ⟨?_, ?_⟩⟩
  · rw [decodeSetup_of_vendor _ p ht]
    exact if_neg hb
  · exact congrArg Host.Outcome.next (onSetup_stall p s)
  · exact congrArg Host.Outcome.next (onSetup_stall p s)

end Sys2Proof.Machine
end

section
/-! PROOFS. The descriptor server: the routes of GET_DESCRIPTOR by descriptor type and string index (30_encoding.md R114,
R117), and the table each request serves (43_descriptor_server.md R235 to R239). -/

namespace Sys2Proof.Machine

/-! The routes of GET_DESCRIPTOR. -/

theorem decodeSetup_of_standard (P : Params) (p : SetupPacket) (h : p.type = 0) : decodeSetup P p = decodeStandard p :=
  if_pos h

/-- A standard request of code 0x06 is decoded by its descriptor type alone (30_encoding.md R113, R117). -/
theorem decodeSetup_of_getDescriptor (P : Params) (p : SetupPacket) (ht : p.type = 0) (hb : p.bRequest = 0x06) :
    decodeSetup P p = decodeDescriptor p := by
  rw [decodeSetup_of_standard P p ht]
  simp [decodeStandard, hb]

theorem decodeDescriptor_of_device (p : SetupPacket) (h : p.dtype = 1) :
    decodeDescriptor p = .getDescriptorDevice p := by
  simp [decodeDescriptor, h]

theorem decodeDescriptor_of_configuration (p : SetupPacket) (h : p.dtype = 2) :
    decodeDescriptor p = .getDescriptorConfiguration p := by
  simp [decodeDescriptor, h]

theorem decodeDescriptor_of_string (p : SetupPacket) (h : p.dtype = 3) (hi : p.dindex.toNat ≤ 2) :
    decodeDescriptor p = .getDescriptorString p := by
  simp [decodeDescriptor, h, hi]

theorem decodeDescriptor_of_qualifier (p : SetupPacket) (h : p.dtype = 6) :
    decodeDescriptor p = .getDescriptorQualifier p := by
  simp [decodeDescriptor, h]

/-! The table a string index names (43_descriptor_server.md R230). -/

@[simp] theorem stringTable_zero (P : Params) : stringTable P 0 = some P.strDesc.language := rfl

@[simp] theorem stringTable_one (P : Params) : stringTable P 1 = some P.strDesc.manufacturer := rfl

@[simp] theorem stringTable_two (P : Params) : stringTable P 2 = some P.strDesc.product := rfl

/-- The string request serves the table its index names, cut to that table's first byte (43_descriptor_server.md R238). -/
theorem exec_getDescriptorString_of_table (p : SetupPacket) (d : List Byte) (s : State)
    (h : stringTable Config.params p.dindex = some d) :
    exec (.getDescriptorString p) s = .next (s.afterServe p d (byteAt d 0).toNat) := by
  have hs : onSetup p getDescriptorString s = onSetup p (serve d (byteAt d 0).toNat) s := by
    simp [onSetup, getDescriptorString, recordSetup, h]
  exact congrArg Host.Outcome.next (hs.trans (onSetup_serve p d _ s))

/-! The statements. -/

/-- Settles O21: the descriptor type alone picks the request, and its handler serves the table. -/
theorem fixedDescriptorsAreServed : Obligations.FixedDescriptorsAreServed := by
  refine ⟨fun p ht hb => ?_, fun p s => ⟨?_, ?_, ?_⟩⟩
  · rw [decodeSetup_of_getDescriptor _ p ht hb]
    exact ⟨decodeDescriptor_of_device p, decodeDescriptor_of_configuration p, decodeDescriptor_of_qualifier p⟩
  · exact congrArg Host.Outcome.next (onSetup_serve p _ _ s)
  · exact congrArg Host.Outcome.next (onSetup_serve p _ _ s)
  · exact congrArg Host.Outcome.next (onSetup_serve p _ _ s)

/-- Settles O22: each of the indexes 0, 1 and 2 names its table, and the handler serves the table named. -/
theorem stringDescriptorsAreServed : Obligations.StringDescriptorsAreServed := by
  refine ⟨fun p ht hb hd hi => ?_, fun p s => ⟨fun h => ?_, fun h => ?_, fun h => ?_⟩⟩
  · rw [decodeSetup_of_getDescriptor _ p ht hb, decodeDescriptor_of_string p hd hi]
  · exact exec_getDescriptorString_of_table p _ s (by rw [h, stringTable_zero])
  · exact exec_getDescriptorString_of_table p _ s (by rw [h, stringTable_one])
  · exact exec_getDescriptorString_of_table p _ s (by rw [h, stringTable_two])

end Sys2Proof.Machine
end

section
/-! PROOFS. The encodings: the row of every request in the fields of its packet, which the decoder follows
(30_encoding.md R117), and the words of the three formats put together and taken apart again (R111, R119, R120). -/

namespace Sys2Proof.Machine

/-! The rows of the opcode table in the fields of a setup packet. -/

/-- The packet is a class request to interface `n`. -/
def ToInterface (n : Byte) (p : SetupPacket) : Prop := p.type = 1 ∧ p.recipient = 1 ∧ p.ifn = n

/-- The packet is a class request to the control `cs` of the entity `e` of the audio-control interface. -/
def ToControl (e cs : Byte) (p : SetupPacket) : Prop := ToInterface 0 p ∧ p.ent = e ∧ p.cs = cs

/-- The condition under which the decoder routes a packet to the request `i` (30_encoding.md R117). -/
def Route (P : Params) : Instr → Prop
  | .getStatus p => p.type = 0 ∧ p.bRequest = 0x00
  | .setAddress p => p.type = 0 ∧ p.bRequest = 0x05
  | .getDescriptorDevice p => p.type = 0 ∧ p.bRequest = 0x06 ∧ p.dtype = 1
  | .getDescriptorConfiguration p => p.type = 0 ∧ p.bRequest = 0x06 ∧ p.dtype = 2
  | .getDescriptorString p => p.type = 0 ∧ p.bRequest = 0x06 ∧ p.dtype = 3 ∧ p.dindex.toNat ≤ 2
  | .getDescriptorQualifier p => p.type = 0 ∧ p.bRequest = 0x06 ∧ p.dtype = 6
  | .getDescriptorOther p =>
    p.type = 0 ∧ p.bRequest = 0x06 ∧ (p.dtype ∉ [1, 2, 3, 6] ∨ p.dtype = 3 ∧ 2 < p.dindex.toNat)
  | .getConfiguration p => p.type = 0 ∧ p.bRequest = 0x08
  | .setConfiguration p => p.type = 0 ∧ p.bRequest = 0x09
  | .setInterface p => p.type = 0 ∧ p.bRequest = 0x0B
  | .stdUnsupported p => p.type = 0 ∧ p.bRequest ∉ [0x00, 0x05, 0x06, 0x08, 0x09, 0x0B]
  | .uac2EpAny p => p.type = 1 ∧ p.recipient = 2
  | .uac2BadRecipient p => p.type = 1 ∧ p.recipient ≠ 1 ∧ p.recipient ≠ 2
  | .uac2AsAny p => ToInterface 1 p
  | .uac2BadInterface p => p.type = 1 ∧ p.recipient = 1 ∧ p.ifn ≠ 0 ∧ p.ifn ≠ 1
  | .uac2FreqGetCur p => ToControl P.clockSourceId 1 p ∧ p.dir = true ∧ p.bRequest = 1
  | .uac2FreqGetRange p => ToControl P.clockSourceId 1 p ∧ p.dir = true ∧ p.bRequest = 2
  | .uac2FreqSetCur p => ToControl P.clockSourceId 1 p ∧ p.dir = false ∧ p.bRequest = 1
  | .uac2FreqOther p =>
    ToControl P.clockSourceId 1 p ∧ (p.dir, p.bRequest) ∉ [(true, 0x01), (true, 0x02), (false, 0x01)]
  | .uac2ValidGetCur p => ToControl P.clockSourceId 2 p ∧ p.dir = true ∧ p.bRequest = 1
  | .uac2ValidSetCur p => ToControl P.clockSourceId 2 p ∧ p.dir = false ∧ p.bRequest = 1
  | .uac2ValidOther p => ToControl P.clockSourceId 2 p ∧ (p.dir, p.bRequest) ∉ [(true, 0x01), (false, 0x01)]
  | .uac2CsBadSelector p => ToInterface 0 p ∧ p.ent = P.clockSourceId ∧ p.cs ≠ 1 ∧ p.cs ≠ 2
  | .uac2CxGetCur p => ToControl P.clockSelectorId 1 p ∧ p.dir = true ∧ p.bRequest = 1
  | .uac2CxSetCur p => ToControl P.clockSelectorId 1 p ∧ p.dir = false ∧ p.bRequest = 1
  | .uac2CxOther p => ToControl P.clockSelectorId 1 p ∧ (p.dir, p.bRequest) ∉ [(true, 0x01), (false, 0x01)]
  | .uac2CxBadSelector p => ToInterface 0 p ∧ p.ent = P.clockSelectorId ∧ p.cs ≠ 1
  | .uac2AcBadEntity p => ToInterface 0 p ∧ p.ent ≠ P.clockSourceId ∧ p.ent ≠ P.clockSelectorId
  | .vendorKeepalive p => p.type = 2 ∧ p.bRequest = 0x01
  | .vendorUnsupported p => p.type = 2 ∧ p.bRequest ≠ 0x01
  | .reservedType p => p.type = 3
  | .evReset | .evRx | .evIn _ | .evOut _ | .rxOutRx _ | .rxOutDone _ | .rxSetupDone _ | .rxSetupRx _ | .rxOther _ _ =>
    False

/-- The masks of the request-type byte in the fields of the packet (30_encoding.md R112). -/
theorem type_rows (p : SetupPacket) :
    (p.bmRequestType &&& 0x60#8 = 0x00#8 ↔ p.type = 0) ∧ (p.bmRequestType &&& 0x60#8 = 0x20#8 ↔ p.type = 1) ∧
      (p.bmRequestType &&& 0x60#8 = 0x40#8 ↔ p.type = 2) ∧ (p.bmRequestType &&& 0x60#8 = 0x60#8 ↔ p.type = 3) :=
  type_mask p.bmRequestType

theorem recipient_rows (p : SetupPacket) :
    (p.bmRequestType &&& 0x7F#8 = 0x22#8 ↔ p.type = 1 ∧ p.recipient = 2) ∧
      (p.bmRequestType &&& 0x7F#8 = 0x21#8 ↔ p.type = 1 ∧ p.recipient = 1) ∧
      (p.bmRequestType = 0xA1#8 ↔ p.type = 1 ∧ p.recipient = 1 ∧ p.dir = true) ∧
      (p.bmRequestType = 0x21#8 ↔ p.type = 1 ∧ p.recipient = 1 ∧ p.dir = false) :=
  recipient_mask p.bmRequestType

theorem and_ff (b : BitVec 8) : b &&& 0xFF#8 = b := BitVec.and_allOnes

/-- A request meets its row of the opcode table exactly if its packet meets its route: each mask names fields, and what is
left is the order of the conditions. -/
theorem wf_iff_route (P : Params) (i : Instr) (p : SetupPacket) (h : i.packet? = some p) :
    i.wf P = true ↔ Route P i := by
  cases i <;> simp only [Instr.packet?, Option.some.injEq, reduceCtorEq] at h <;> subst h
  all_goals
    simp [Instr.wf, Route, ToInterface, ToControl, SetupPacket.row_iff, and_ff, type_rows, recipient_rows, high_mask,
      low_mask, SetupPacket.dtype, SetupPacket.ifn, SetupPacket.cs] <;> grind

/-! The decoder meets the routes, and no other request does. -/

theorem decodeDescriptor_route (P : Params) (p : SetupPacket) (ht : p.type = 0) (hb : p.bRequest = 0x06) :
    Route P (decodeDescriptor p) := by
  unfold decodeDescriptor
  split_ifs <;> simp_all [Route]

theorem decodeStandard_route (P : Params) (p : SetupPacket) (ht : p.type = 0) : Route P (decodeStandard p) := by
  by_cases hb : p.bRequest = 0x06
  · simpa [decodeStandard, hb] using decodeDescriptor_route P p ht hb
  · unfold decodeStandard
    split_ifs <;> simp_all [Route]

theorem decodeEntity_route (P : Params) (p : SetupPacket) (h : ToInterface 0 p) : Route P (decodeEntity P p) := by
  unfold decodeEntity decodeFreq decodeValid decodeSelector
  split_ifs <;> simp_all [Route, ToControl]

theorem decodeClass_route (P : Params) (p : SetupPacket) (ht : p.type = 1) : Route P (decodeClass P p) := by
  unfold decodeClass
  split_ifs with h2 h1 hs hc
  · exact ⟨ht, h2⟩
  · exact ⟨ht, h1, h2⟩
  · exact ⟨ht, not_not.mp h1, hs⟩
  · exact ⟨ht, not_not.mp h1, hc, hs⟩
  · exact decodeEntity_route P p ⟨ht, not_not.mp h1, not_not.mp hc⟩

/-- The request a packet decodes to is one whose route the packet meets. -/
theorem decodeSetup_route (P : Params) (p : SetupPacket) : Route P (decodeSetup P p) := by
  unfold decodeSetup
  split_ifs with h0 h1 h2
  · exact decodeStandard_route P p h0
  · exact decodeClass_route P p h1
  · unfold decodeVendor
    split_ifs with hb <;> exact ⟨h2, hb⟩
  · show p.type = 3
    bv_omega

theorem decodeSetup_of_interface_zero (P : Params) (p : SetupPacket) (h : ToInterface 0 p) :
    decodeSetup P p = decodeEntity P p := by
  obtain ⟨ht, hr, hi⟩ := h
  simp [decodeSetup, decodeClass, ht, hr, hi]

/-- A packet decodes to every request whose route it meets, so to the only one. -/
theorem decodeSetup_of_route (P : Params) (hid : P.clockSourceId ≠ P.clockSelectorId) (i : Instr) (p : SetupPacket)
    (h : i.packet? = some p) (hr : Route P i) : decodeSetup P p = i := by
  have hid' := hid.symm
  cases i <;> simp only [Instr.packet?, Option.some.injEq, reduceCtorEq] at h <;> subst h
  case getStatus | setAddress | getConfiguration | setConfiguration | setInterface | stdUnsupported |
      vendorKeepalive | vendorUnsupported | reservedType =>
    simp_all [Route, decodeSetup, decodeStandard, decodeVendor]
  case getDescriptorDevice | getDescriptorConfiguration | getDescriptorString | getDescriptorQualifier |
      getDescriptorOther =>
    obtain ⟨ht, hb, hd⟩ := hr
    rw [decodeSetup_of_getDescriptor P _ ht hb]
    grind [decodeDescriptor]
  case uac2EpAny | uac2BadRecipient | uac2AsAny | uac2BadInterface =>
    simp_all [Route, ToInterface, decodeSetup, decodeClass]
  case uac2CsBadSelector | uac2CxBadSelector | uac2AcBadEntity =>
    obtain ⟨hi, he⟩ := hr
    rw [decodeSetup_of_interface_zero P _ hi]
    simp_all [decodeEntity]
  all_goals
    obtain ⟨⟨hi, he, hc⟩, hdb⟩ := hr
    rw [decodeSetup_of_interface_zero P _ hi]
    grind [decodeEntity, decodeFreq, decodeValid, decodeSelector]

/-- A legal parameter set gives the two clock entities different IDs (00_scope.md R6). -/
theorem ids_ne_of_wf (P : Params) (h : P.Wf) : P.clockSourceId ≠ P.clockSelectorId := by
  obtain ⟨_, _, _, _, hid, _⟩ := h
  exact hid

/-! The bytes of an event word and of a receive-status word. -/

/-- An event word put together from its fields gives them back (30_encoding.md R120). -/
theorem eventWord_kind_ep (k ep : BitVec 4) : eventKind (eventWord k ep) = k ∧ eventEp (eventWord k ep) = ep := by
  revert k ep
  decide

theorem decode_setup_bytes (P : Params) (p : SetupPacket) : decode P .setup p.bytes = .ok (decodeSetup P p) := by
  rw [decode_setup_eq_ok_iff, parsePacket_bytes]
  exact ⟨rfl, rfl⟩

theorem decode_event (P : Params) (e : BitVec 8) : decode P .event [e] = decodeEvent P e := rfl

theorem decode_rxsts_word (P : Params) (w : BitVec 32) :
    decode P .rxsts (leBytes 4 w.toNat) = .ok (decodeRxStatus w) := by
  have hw : decode P .rxsts (leBytes 4 w.toNat) = .ok (decodeRxStatus (word32 (leBytes 4 w.toNat))) := rfl
  rw [hw, word32_leBytes]

/-- A request is decoded from its bytes by its packet alone. -/
theorem encode_request (i : Instr) (p : SetupPacket) (h : i.packet? = some p) :
    i.format = .setup ∧ encode i = p.bytes := by
  cases i <;> simp only [Instr.packet?, Option.some.injEq, reduceCtorEq] at h <;> subst h <;> exact ⟨rfl, rfl⟩

theorem decode_encode_request (P : Params) (hid : P.clockSourceId ≠ P.clockSelectorId) (i : Instr) (p : SetupPacket)
    (h : i.packet? = some p) (hw : i.wf P = true) : decode P i.format (encode i) = .ok i := by
  obtain ⟨hf, he⟩ := encode_request i p h
  rw [hf, he, decode_setup_bytes, decodeSetup_of_route P hid i p h ((wf_iff_route P i p h).mp hw)]

theorem decode_encode_rxStatus (P : Params) (k : BitVec 4) (st : RxStatus) :
    decode P .rxsts (leBytes 4 (rxWord k st).toNat) =
      .ok (if k = 2 then .rxOutRx st else if k = 3 then .rxOutDone st else if k = 4 then .rxSetupDone st
        else if k = 6 then .rxSetupRx st else .rxOther k st) := by
  obtain ⟨hk, hs⟩ := rxWord_fields k st
  rw [decode_rxsts_word, decodeRxStatus, hk, hs]

/-- The fields of an event word as numbers (30_encoding.md R120). -/
theorem eventFields_eq (e : BitVec 8) :
    (eventKind e).toNat = e.toNat / 16 ∧ (eventEp e).toNat = e.toNat % 16 ∧ eventEp e = BitVec.ofNat 4 e.toNat := by
  revert e
  decide

/-- A byte in front of the little-endian rest of a word. -/
theorem toNat_append_byte {n : Nat} (x : BitVec n) (b : Byte) : (x ++ b).toNat = b.toNat + 256 * x.toNat := by
  rw [BitVec.toNat_append, ← Nat.shiftLeft_add_eq_or_of_lt b.isLt, Nat.shiftLeft_eq]
  omega

theorem toNat_append_word {n : Nat} (x : BitVec n) (v : BitVec 16) : (x ++ v).toNat = v.toNat + 65536 * x.toNat := by
  rw [BitVec.toNat_append, ← Nat.shiftLeft_add_eq_or_of_lt v.isLt, Nat.shiftLeft_eq]
  omega

theorem le16_toNat (b0 b1 : Byte) : (le16 b0 b1).toNat = b0.toNat + 256 * b1.toNat := toNat_append_byte b1 b0

/-- The fields of a receive-status word as numbers (30_encoding.md R119). -/
theorem rxFields_eq (w : BitVec 32) :
    rxFields w =
      { epnum := BitVec.ofNat 4 w.toNat, bcnt := BitVec.ofNat 11 (w.toNat / 2 ^ 4)
        dpid := BitVec.ofNat 2 (w.toNat / 2 ^ 15), frmnum := BitVec.ofNat 4 (w.toNat / 2 ^ 21) } := by
  simp only [← Nat.shiftRight_eq_div_pow]
  rfl

theorem rxPktsts_eq (w : BitVec 32) : rxPktsts w = BitVec.ofNat 4 (w.toNat / 2 ^ 17 % 16) := by
  apply BitVec.eq_of_toNat_eq
  simp [rxPktsts, Nat.shiftRight_eq_div_pow]

theorem rxPktsts_eq_iff (w : BitVec 32) (k : BitVec 4) : rxPktsts w = k ↔ w.toNat / 2 ^ 17 % 16 = k.toNat := by
  rw [← BitVec.toNat_inj, rxPktsts_eq, BitVec.toNat_ofNat, Nat.mod_mod]

/-! The statements. -/

/-- Settles O1: a request by the route of its row, an event and a receive-status row by the fields of their words. -/
theorem decodeOfEncodeIsTheInstruction : Obligations.DecodeOfEncodeIsTheInstruction := by
  intro P hP i hw
  have hid := ids_ne_of_wf P hP
  cases i
  case evReset | evRx => rfl
  case evIn ep | evOut ep =>
    have hep : ep.toNat < P.numEp := of_decide_eq_true hw
    show decodeEvent P (eventWord _ ep) = _
    simp [decodeEvent, eventWord_kind_ep, hep]
  case rxOutRx st | rxOutDone st | rxSetupDone st | rxSetupRx st => exact decode_encode_rxStatus P _ st
  case rxOther k st =>
    refine (decode_encode_rxStatus P k st).trans ?_
    simp [Instr.wf] at hw
    simp [hw]
  all_goals exact decode_encode_request P hid _ _ rfl hw

/-- Settles O2: a row is met exactly on its route, and the decoder answers the one request whose route is met. -/
theorem exactlyOneRequestPerSetupPacket : Obligations.ExactlyOneRequestPerSetupPacket := by
  intro P hP p
  have hid := ids_ne_of_wf P hP
  have hreq := decodeSetup_isRequest P p
  exact ⟨hreq, (wf_iff_route P _ p hreq).mpr (decodeSetup_route P p), fun i hi hw =>
    (decodeSetup_of_route P hid i p hi ((wf_iff_route P i p hi).mp hw)).symm⟩

/-- Settles O3: the word is its fields one above the other, byte 0 lowest. -/
theorem setupFieldsAreLittleEndian : Obligations.SetupFieldsAreLittleEndian := by
  intro b0 b1 b2 b3 b4 b5 b6 b7
  refine ⟨rfl, rfl, le16_toNat b2 b3, le16_toNat b4 b5, le16_toNat b6 b7, ?_, SetupPacket.word_fields _⟩
  have hw : (parsePacket [b0, b1, b2, b3, b4, b5, b6, b7]).word = le16 b6 b7 ++ le16 b4 b5 ++ le16 b2 b3 ++ b1 ++ b0 := rfl
  rw [hw, toNat_append_byte, toNat_append_byte, toNat_append_word, toNat_append_word, le16_toNat, le16_toNat, le16_toNat]
  omega

/-- Settles O4: kind and endpoint are the quotient and the remainder of the word by 16. -/
theorem eventWordsDecodeByKind : Obligations.EventWordsDecodeByKind := by
  intro P e
  obtain ⟨hk, hn, he⟩ := eventFields_eq e
  rw [decode_event, decodeEvent, ← he]
  simp only [← BitVec.toNat_inj, hk, hn]
  rfl

/-- Settles O5: the packet status picks the row, and the other fields are the stated bits. -/
theorem statusWordsDecodeByPacketStatus : Obligations.StatusWordsDecodeByPacketStatus := by
  intro P w
  rw [decode_rxsts_word, decodeRxStatus, rxFields_eq]
  simp only [rxPktsts_eq_iff]
  rw [rxPktsts_eq]
  rfl

/-- Settles O6: each setup packet meets the route of its request, the other words are evaluated. -/
theorem writtenOutWordsDecode : Obligations.WrittenOutWordsDecode := by
  intro P hs hx hn
  have hid : P.clockSourceId ≠ P.clockSelectorId := by rw [hs, hx]; decide
  refine ⟨rfl, rfl, ?_, ?_, rfl, rfl, ?_, rfl, rfl⟩
  · refine congrArg Except.ok (decodeSetup_of_route P hid _ _ rfl ?_)
    simp only [Route, ToControl, ToInterface, hs]
    decide
  · refine congrArg Except.ok (decodeSetup_of_route P hid _ _ rfl ?_)
    simp only [Route, ToControl, ToInterface, hx]
    decide
  · exact if_pos hn

end Sys2Proof.Machine
end

section
/-! PROOFS. The statements about single requests: each route (30_encoding.md R117) with the outcome of its handler, an ACK,
a stall or a reply (41_control_sequencer.md R152, R157, R163). -/

namespace Sys2Proof.Machine

/-- The model's decoder answers the request whose route the packet meets. -/
theorem decodeSetup_params (i : Instr) (p : SetupPacket) (h : i.packet? = some p) (hr : Route Config.params i) :
    decodeSetup Config.params p = i := decodeSetup_of_route _ Config.params_ids_ne i p h hr

/-! A request by its handler. -/

theorem next_onSetup_ack (p : SetupPacket) (s : State) :
    Host.Outcome.next (onSetup p ack s) = (.next (s.afterAck p) : Result) := congrArg _ (onSetup_ack p s)

theorem next_onSetup_stall (p : SetupPacket) (s : State) :
    Host.Outcome.next (onSetup p stall0 s) = (.next (s.afterStall p) : Result) := congrArg _ (onSetup_stall p s)

theorem next_onSetup_reply (p : SetupPacket) (d : List Byte) (n : Nat) (s : State) (hn : d.length = n) (h0 : 0 < n) :
    Host.Outcome.next (onSetup p (reply Config.params d) s) = (.next (s.afterData p d n) : Result) := by
  subst hn
  exact congrArg _ (onSetup_reply p d s h0)

/-! The standard requests that write a register (42_standard_requests.md R192, R195, R196). -/

theorem exec_setAddress_accepted (p : SetupPacket) (s : State) (hv : p.wValue.toNat ≤ 0x7F) (hx : p.wIndex = 0)
    (hl : p.wLength = 0) :
    exec (.setAddress p) s =
      .next (State.afterAck p { s with dev := { s.dev with devAddr := BitVec.ofNat 7 p.wValue.toNat } }) := by
  have hn : ¬ (p.wValue > Config.addrMax ∨ p.wIndex ≠ 0 ∨ p.wLength ≠ 0) := by
    rintro (h | h | h)
    · exact absurd hv (Nat.not_le.mpr h)
    · exact h hx
    · exact h hl
  exact congrArg Host.Outcome.next (if_neg hn)

theorem exec_setAddress_refused (p : SetupPacket) (s : State)
    (h : 0x7F < p.wValue.toNat ∨ p.wIndex ≠ 0 ∨ p.wLength ≠ 0) : exec (.setAddress p) s = .next (s.afterStall p) :=
  congrArg Host.Outcome.next (if_pos h)

theorem exec_setConfiguration_accepted (p : SetupPacket) (s : State) (v : BitVec 16) (hv : p.wValue = v) (hle : ¬ v > 1) :
    exec (.setConfiguration p) s =
      .next (State.afterAck p { s with
        dev := { s.dev with config := v.extractLsb' 0 8 }
        iso := if v = 1 then { s.iso with active := true } else s.iso }) := by
  subst hv
  refine congrArg Host.Outcome.next ((if_neg hle).trans ?_)
  by_cases h1 : p.wValue = 1
  · rw [if_pos h1]
    exact congrArg ack (if_pos h1)
  · rw [if_neg h1]
    exact congrArg ack (if_neg h1)

theorem exec_setConfiguration_refused (p : SetupPacket) (s : State) (h : 1 < p.wValue.toNat) :
    exec (.setConfiguration p) s = .next (s.afterStall p) :=
  congrArg Host.Outcome.next (if_pos h)

/-- SET_INTERFACE tests the three accepted pairs in turn (42_standard_requests.md R196). -/
theorem exec_setInterface (p : SetupPacket) (s : State) :
    exec (.setInterface p) s = .next
      (if p.wIndex.toNat = 0 ∧ p.wValue = 0 then s.afterAck p
      else if p.wIndex.toNat = 1 ∧ p.wValue = 0 then
        State.afterAck p
          { s with dev := { s.dev with asAlt := 0 }, iso := { s.iso with active := false, armed := false } }
      else if p.wIndex.toNat = 1 ∧ p.wValue = 1 then
        State.afterAck p
          { s with
            dev := { s.dev with asAlt := 1 }
            iso := { s.iso with active := true, mps := 196, rem := 196, armed := true } }
      else s.afterStall p) := rfl

/-! The statements: standard and vendor requests. -/

/-- Settles O13: the handler replies the two bytes. -/
theorem getStatusRepliesTwoZeroBytes : Obligations.GetStatusRepliesTwoZeroBytes :=
  ⟨fun p ht hb => decodeSetup_params _ p rfl ⟨ht, hb⟩, fun p s => next_onSetup_reply p _ 2 s rfl (by decide)⟩

/-- Settles O14, by the handler's one test. -/
theorem setAddressWritesAtOnceOrStalls : Obligations.SetAddressWritesAtOnceOrStalls :=
  ⟨fun p ht hb => decodeSetup_params _ p rfl ⟨ht, hb⟩, fun p s =>
    ⟨fun ⟨hv, hx, hl⟩ => exec_setAddress_accepted p s hv hx hl, exec_setAddress_refused p s⟩⟩

/-- Settles O15: the handler replies the one byte. -/
theorem getConfigurationRepliesTheConfiguration : Obligations.GetConfigurationRepliesTheConfiguration :=
  ⟨fun p ht hb => decodeSetup_params _ p rfl ⟨ht, hb⟩, fun p s =>
    next_onSetup_reply p [s.dev.config] 1 s rfl (by decide)⟩

/-- Settles O16: the two accepted values, then every other one. -/
theorem setConfigurationAcceptsZeroAndOne : Obligations.SetConfigurationAcceptsZeroAndOne :=
  ⟨fun p ht hb => decodeSetup_params _ p rfl ⟨ht, hb⟩, fun p s =>
    ⟨fun h => exec_setConfiguration_accepted p s 0 h (by decide),
      fun h => exec_setConfiguration_accepted p s 1 h (by decide), exec_setConfiguration_refused p s⟩⟩

/-- Settles O17: the handler tests the three accepted pairs in turn. -/
theorem setInterfaceEnablesAndArms : Obligations.SetInterfaceEnablesAndArms := by
  refine ⟨fun p ht hb => decodeSetup_params _ p rfl ⟨ht, hb⟩, fun p s => ?_⟩
  rw [exec_setInterface]
  refine ⟨fun ⟨hx, hv⟩ => ?_, fun ⟨hx, hv⟩ => ?_, fun ⟨hx, hv⟩ => ?_, fun h => ?_⟩
  · simp [hx, hv]
  · simp [hx, hv]
  · simp [hx, hv]
  · rw [if_neg (by bv_omega), if_neg (by bv_omega), if_neg (by bv_omega)]

/-- Settles O19: no code the decoder names, so the handler is the stall. -/
theorem unknownStandardCodesStall : Obligations.UnknownStandardCodesStall :=
  ⟨fun p ht hb => decodeSetup_params _ p rfl ⟨ht, hb⟩, next_onSetup_stall⟩

/-- Settles O20: the handler replies the token, which has 4 bytes. -/
theorem keepaliveRepliesTheToken : Obligations.KeepaliveRepliesTheToken :=
  ⟨fun p ht hb => decodeSetup_params _ p rfl ⟨ht, hb⟩, fun p s =>
    next_onSetup_reply p _ 4 s Config.params_token_length (by decide)⟩

/-- Settles O23: both forms are the route of GET_DESCRIPTOR_OTHER, whose handler is the stall. -/
theorem unknownDescriptorsStall : Obligations.UnknownDescriptorsStall :=
  ⟨fun p ht hb => ⟨fun hd hi => decodeSetup_params _ p rfl ⟨ht, hb, .inr ⟨hd, hi⟩⟩,
      fun hd => decodeSetup_params _ p rfl ⟨ht, hb, .inl hd⟩⟩, next_onSetup_stall⟩

/-! The statements: class requests. -/

/-- Settles O24: both routes end in the ACK. -/
theorem streamingAndEndpointRequestsAreAcked : Obligations.StreamingAndEndpointRequestsAreAcked :=
  ⟨fun p ht hr => decodeSetup_params _ p rfl ⟨ht, hr⟩, fun p ht hr hi => decodeSetup_params _ p rfl ⟨ht, hr, hi⟩,
    fun p s => ⟨next_onSetup_ack p s, next_onSetup_ack p s⟩⟩

/-- Settles O25: both routes end in the ACK. -/
theorem acceptedSetCurIsAcked : Obligations.AcceptedSetCurIsAcked :=
  ⟨fun p ht hr hi hc hd hb => ⟨fun he => decodeSetup_params _ p rfl ⟨⟨⟨ht, hr, hi⟩, he, hc⟩, hd, hb⟩,
      fun he => decodeSetup_params _ p rfl ⟨⟨⟨ht, hr, hi⟩, he, hc⟩, hd, hb⟩⟩,
    fun p s => ⟨next_onSetup_ack p s, next_onSetup_ack p s⟩⟩

/-- Settles O26: the five routes end in the stall. -/
theorem unknownRecipientsEntitiesAndSelectorsStall : Obligations.UnknownRecipientsEntitiesAndSelectorsStall :=
  ⟨fun p ht => ⟨fun h1 h2 => decodeSetup_params _ p rfl ⟨ht, h1, h2⟩, fun hr hi =>
      ⟨fun hs hx => decodeSetup_params _ p rfl ⟨⟨ht, hr, hi⟩, hs, hx⟩,
        fun he => ⟨fun h1 h2 => decodeSetup_params _ p rfl ⟨⟨ht, hr, hi⟩, he, h1, h2⟩,
          fun hc hd hb => decodeSetup_params _ p rfl ⟨⟨⟨ht, hr, hi⟩, he, hc⟩, hd, hb⟩⟩,
        fun he hc => decodeSetup_params _ p rfl ⟨⟨ht, hr, hi⟩, he, hc⟩⟩⟩,
    fun p s => ⟨next_onSetup_stall p s, next_onSetup_stall p s, next_onSetup_stall p s, next_onSetup_stall p s,
      next_onSetup_stall p s⟩⟩

/-- Settles O27: the four routes end in the stall. -/
theorem unnamedClassRequestsStall : Obligations.UnnamedClassRequestsStall :=
  ⟨fun p ht hr => ⟨fun h0 h1 => decodeSetup_params _ p rfl ⟨ht, hr, h0, h1⟩, fun hi =>
      ⟨fun he => ⟨fun hc hn => decodeSetup_params _ p rfl ⟨⟨⟨ht, hr, hi⟩, he, hc⟩, hn⟩,
          fun hc hn => decodeSetup_params _ p rfl ⟨⟨⟨ht, hr, hi⟩, he, hc⟩, hn⟩⟩,
        fun he hc hn => decodeSetup_params _ p rfl ⟨⟨⟨ht, hr, hi⟩, he, hc⟩, hn⟩⟩⟩,
    fun p s => ⟨next_onSetup_stall p s, next_onSetup_stall p s, next_onSetup_stall p s, next_onSetup_stall p s⟩⟩

/-- Settles O28: the replies are the rate's four byte fields and the one ID. -/
theorem currentRateAndSourceAreReplied : Obligations.CurrentRateAndSourceAreReplied := by
  refine ⟨fun p ht hr hi hd hc hb => ⟨fun he => decodeSetup_params _ p rfl ⟨⟨⟨ht, hr, hi⟩, he, hc⟩, hd, hb⟩,
    fun he => decodeSetup_params _ p rfl ⟨⟨⟨ht, hr, hi⟩, he, hc⟩, hd, hb⟩⟩, fun p s => ⟨?_, ?_⟩⟩
  · rw [← leBytes_four]
    exact next_onSetup_reply p (leBytes 4 s.clk.sampleRate.toNat) 4 s rfl (by decide)
  · exact next_onSetup_reply p [Config.params.clockSourceId] 1 s rfl (by decide)

/-- Settles O29: the replies are the range's 14 bytes and the one flag byte. -/
theorem rangeAndValidityAreReplied : Obligations.RangeAndValidityAreReplied :=
  ⟨fun p ht hr hi hd he => ⟨fun hc hb => decodeSetup_params _ p rfl ⟨⟨⟨ht, hr, hi⟩, he, hc⟩, hd, hb⟩,
      fun hc hb => decodeSetup_params _ p rfl ⟨⟨⟨ht, hr, hi⟩, he, hc⟩, hd, hb⟩⟩,
    fun p s => ⟨next_onSetup_reply p _ 14 s rfl (by decide),
      next_onSetup_reply p [if s.clk.valid then 0x01 else 0x00] 1 s rfl (by decide)⟩⟩

end Sys2Proof.Machine
end

section
/-! PROOFS. The statements about steps, receive-status rows and events (46_event_dispatch.md R330 to R340,
60_exceptions.md R361). -/

namespace Sys2Proof.Machine

/-! The receive-status rows and the events, one equation per case. -/

/-- A setup entry of 8 bytes runs the request it decodes to (46_event_dispatch.md R333). -/
theorem setupArm_eight (data : List Byte) (s : State) (h : data.length = 8) :
    setupArm 8 data s = exec (decodeSetup Config.params (parsePacket data)) s := by
  rw [← runRequest_eq_exec _ _ (decodeSetup_isRequest Config.params (parsePacket data))]
  exact if_neg (by simp [h])

/-- It answers a next state that holds the packet, without a fault of its own and with the events it found. -/
theorem setupArm_runs (data : List Byte) (s : State) (h : data.length = 8) :
    ∃ t, setupArm 8 data s = .next t ∧ t.ctl.setup = parsePacket data ∧ t.fault = s.fault ∧ t.ev = s.ev := by
  obtain ⟨t, ht, ho⟩ := request_cases _ _ s (decodeSetup_isRequest Config.params (parsePacket data))
  obtain ⟨_, _, _, _, _, hev, _, _, hfault, _⟩ := ho.frame
  exact ⟨t, (setupArm_eight data s h).trans ht, ho.recorded.1, hfault, hev⟩

/-- A setup entry of another length records the fault. -/
theorem setupArm_other (bcnt : Nat) (data : List Byte) (s : State) (h : bcnt ≠ 8 ∨ data.length ≠ 8) :
    setupArm bcnt data s = .next { s with fault := some .badSetupLength } := if_pos h

/-- The SETUP_RX arm answers a next state whatever the entry is. -/
theorem setupArm_completes (bcnt : Nat) (data : List Byte) (s : State) : ∃ t, setupArm bcnt data s = .next t := by
  by_cases h : bcnt ≠ 8 ∨ data.length ≠ 8
  · exact ⟨_, setupArm_other bcnt data s h⟩
  · obtain ⟨rfl, hd⟩ : bcnt = 8 ∧ data.length = 8 := by omega
    obtain ⟨t, ht, _⟩ := setupArm_runs data s hd
    exact ⟨t, ht⟩

/-- EV_RX on a non-empty queue is the arm of the head entry's kind (46_event_dispatch.md R332). -/
theorem exec_evRx_cons (s : State) (e : RxEntry) (q : List RxEntry) (h : s.ev.rxq = e :: q) :
    exec .evRx s =
      match e.kind with
      | .setupRx => setupArm e.bcnt e.data s.popped
      | .outDone => .next { s.popped with ep0 := { s.ep0 with outArmed := true } }
      | .outRx | .setupDone | .other _ => .next s.popped := by
  simp only [exec, execEvRx, h]
  cases e.kind <;> rfl

theorem exec_evRx_nil (s : State) (h : s.ev.rxq = []) : exec .evRx s = .next s := by
  simp [exec, execEvRx, h]

/-- EV_OUT of the isochronous endpoint with a completion that the pipeline faults on (45_iso_receive.md R300). -/
theorem exec_evOut_iso_fault (s : State) (r : Fault) (hu : s.ep0.irqUnmasked = true) (hf : flagAt s.ev.oepXfrc 1 = true)
    (hr : isoFault s = some r) :
    exec (.evOut 1) s =
      .next { s with ev := { s.ev with oepXfrc := s.ev.oepXfrc.set 1 false }, fault := some r } := by
  have hen : outEnabled (1 : BitVec 4).toNat s = true := by simp [outEnabled, hu, hf]
  have hr' : isoFault (setOepXfrc 1 false s) = some r := hr
  refine congrArg Host.Outcome.next ((if_pos hen).trans ?_)
  simp [onOutEp, hf, hr']
  rfl

/-! The statements: steps. -/

/-- Settles O7: the schedule's first choice is taken, and an event word that decodes runs its event. -/
theorem stepRunsTheDecodedEvent : Obligations.StepRunsTheDecodedEvent := by
  intro s e rest i hf hc hd
  rw [decode_event] at hd
  rw [step_of_scheduled s _ rest hf hc]
  simp only [act, hd]

/-- Settles O10: the front end looks at the fault before it takes a choice. -/
theorem faultStopsEveryAgent : Obligations.FaultStopsEveryAgent :=
  ⟨fun s f h => by simp [step, frontEnd, h], fun s t h => (step_cases s t h).1⟩

/-- Settles O11: the drawn choice, where an agent can make it, is the only choice of the schedule. -/
theorem drawnChoiceIsTakenLikeAScheduledOne : Obligations.DrawnChoiceIsTakenLikeAScheduledOne := by
  intro s hf hc
  have hdrawn : nextAction s =
      (if producible (Config.drawnAction s.drawn) then some (Config.drawnAction s.drawn) else none,
        { s with drawn := s.drawn + 1 }) := by
    simp [nextAction, hc]
  by_cases hp : producible (Config.drawnAction s.drawn) = true
  · rw [if_pos hp, step_of_scheduled
      { s with schedule := [Config.drawnAction s.drawn], drawn := s.drawn + 1 } _ [] hf rfl]
    simp [step, frontEnd, hf, hdrawn, hp, hc]
  · rw [if_neg hp]
    simp [step, frontEnd, hf, hdrawn, hp]

/-- The entry a placed request becomes (log entry 4). -/
def placedEntry (p : SetupPacket) : RxEntry := { kind := .setupRx, ep := 0, bcnt := 8, data := p.bytes }

/-- A request is placed at the head of the queue, and EV_RX as the next choice (log entry 4). -/
theorem placeInstr_request (i : Instr) (p : SetupPacket) (h : i.packet? = some p) (s : State) :
    placeInstr i s = scheduleNext 0x10 (queueFirst (placedEntry p) s) := by
  cases i <;> simp only [Instr.packet?, Option.some.injEq, reduceCtorEq] at h <;> subst h <;> rfl

/-- A byte of a 16-bit field of a word is a byte of the word. -/
theorem extractLsb'_byte_of_half (w : BitVec 64) (a b : Nat) (h : b + 8 ≤ 16) :
    (w.extractLsb' a 16).extractLsb' b 8 = w.extractLsb' (a + b) 8 := by
  apply BitVec.eq_of_getLsbD_eq
  intro i hi
  simp only [BitVec.getLsbD_extractLsb', hi, show b + i < 16 by omega, decide_true, Bool.true_and, Nat.add_assoc]

/-- The little-endian bytes of a packet's 64-bit word are its wire bytes (30_encoding.md R111). -/
theorem leBytes_word (p : SetupPacket) : leBytes 8 p.word.toNat = p.bytes := by
  have hbyte : ∀ k, BitVec.ofNat 8 (p.word.toNat / 2 ^ k) = p.word.extractLsb' k 8 := by
    intro k
    apply BitVec.eq_of_toNat_eq
    simp [Nat.shiftRight_eq_div_pow]
  obtain ⟨h0, h1, hv, hi, hl⟩ := p.word_fields
  rw [SetupPacket.bytes, ← hv, ← hi, ← hl, ← h0, ← h1]
  simp only [extractLsb'_byte_of_half _ _ 0 (by decide), extractLsb'_byte_of_half _ _ 8 (by decide), ← hbyte, leBytes,
    Nat.div_div_eq_div_mul]
  simp

theorem decodeTableWord_setup (p : SetupPacket) :
    decodeTableWord 64 p.word.toNat = some (decodeSetup Config.params p) := by
  have hd : decode Config.params .setup (leBytes 8 (p.word.toNat % 2 ^ 64)) = .ok (decodeSetup Config.params p) := by
    rw [Nat.mod_eq_of_lt p.word.isLt, leBytes_word, decode_setup_bytes]
  have hf : tableFormat 64 p.word.toNat = some .setup := rfl
  simp only [decodeTableWord, hf, Format.bytes, hd]

/-- Settles O12: the placed entry is the head of the queue and EV_RX the next choice. -/
theorem placedSetupWordRunsNext : Obligations.PlacedSetupWordRunsNext := by
  intro s p
  have hp : s.withFetchWord 64 p.word.toNat = scheduleNext 0x10 (queueFirst (placedEntry p) s) := by
    unfold State.withFetchWord placeWord
    rw [decodeTableWord_setup]
    exact placeInstr_request _ p (decodeSetup_isRequest _ p) s
  rw [hp, step_of_scheduled _ (.event 0x10) s.schedule rfl rfl, act_rx]
  refine (exec_evRx_setup _ (placedEntry p) s.ev.rxq rfl rfl rfl rfl).trans ?_
  have hdata : parsePacket (placedEntry p).data = p := parsePacket_bytes p
  rw [hdata]
  rfl

/-- Settles O60: a request has an outcome, an entry's arm completes, and every other meaning is a next state. -/
theorem everyInstructionCompletes : Obligations.EveryInstructionCompletes := by
  intro i s
  cases hp : i.packet? with
  | some p =>
    obtain ⟨t, ht, _⟩ := request_cases i p s hp
    exact ⟨t, ht⟩
  | none =>
    cases i with
    | evRx =>
      cases hq : s.ev.rxq with
      | nil => exact ⟨s, exec_evRx_nil s hq⟩
      | cons e q =>
        rw [exec_evRx_cons s e q hq]
        cases e.kind
        case setupRx => exact setupArm_completes _ _ _
        all_goals exact ⟨_, rfl⟩
    | rxSetupRx st => exact setupArm_completes _ _ _
    | evReset | evIn | evOut | rxOutRx | rxOutDone | rxSetupDone | rxOther => exact ⟨_, rfl⟩
    | _ => cases hp

/-! The statements: receive-status rows. -/

/-- Settles O9: the arm of the entry's kind is the row of that kind. -/
theorem rxEventRunsTheEntrysRow : Obligations.RxEventRunsTheEntrysRow := by
  intro s e q st c hq
  rw [exec_evRx_cons s e q hq]
  refine ⟨fun h => by rw [h]; rfl, fun h => by rw [h]; rfl, fun h => by rw [h]; rfl, fun h => by rw [h]; rfl,
    fun h hb => ?_⟩
  have hhead : headData s = e.data := by simp [headData, hq]
  have hrow : exec (.rxSetupRx st) s = setupArm st.bcnt.toNat (headData s) (popRx s) := rfl
  rw [hrow, h, hb, hhead]
  rfl

/-- Settles O32, by the rows' definitions. -/
theorem receiveStatusRowsPopTheirEntry : Obligations.ReceiveStatusRowsPopTheirEntry :=
  fun _ _ _ => ⟨rfl, rfl, rfl, rfl⟩

/-- Settles O33: the row is the SETUP_RX arm on the head entry's bytes. -/
theorem setupEntryRunsItsRequestOrFaults : Obligations.SetupEntryRunsItsRequestOrFaults := by
  intro s e q st hq
  have hrow : exec (.rxSetupRx st) s = setupArm st.bcnt.toNat e.data s.popped := by
    have hhead : headData s = e.data := by simp [headData, hq]
    rw [← hhead]
    rfl
  rw [hrow]
  refine ⟨fun ⟨hb, hd⟩ => ?_, fun h => setupArm_other _ _ _ (h.imp_left fun hb hn => hb (BitVec.eq_of_toNat_eq hn))⟩
  rw [hb]
  obtain ⟨t, ht, hset, hfault, _⟩ := setupArm_runs e.data s.popped hd
  exact ⟨setupArm_eight e.data s.popped hd, t, ht, hset, hfault⟩

/-! The statements: events. -/

/-- Settles O34: the handler of an enabled reset writes the eight fields. -/
theorem busResetReturnsToIdle : Obligations.BusResetReturnsToIdle :=
  fun _ h => congrArg Host.Outcome.next (if_pos h)

/-- Settles O35: each event tests its flag and mask first. -/
theorem maskedEventsAreNotDispatched : Obligations.MaskedEventsAreNotDispatched := by
  intro s
  refine ⟨fun h => ?_, exec_evRx_nil s, fun ep => ⟨fun h => ?_, fun h => ?_⟩⟩
  · simp [exec, execEvReset, resetEnabled, h]
  · have hoff : inEnabled ep.toNat s = false := by rcases h with h | h <;> simp [inEnabled, h]
    simp [exec, execEvIn, hoff]
  · have hoff : outEnabled ep.toNat s = false := by rcases h with h | h <;> simp [outEnabled, h]
    simp [exec, execEvOut, hoff]

/-- Settles O36, by the arm of the head entry's kind. -/
theorem rxEventPopsTheHeadEntry : Obligations.RxEventPopsTheHeadEntry := by
  intro s e q hq
  have hev : s.popped.ev = { s.ev with rxq := q } := by simp [State.popped, hq]
  rw [exec_evRx_cons s e q hq]
  cases hk : e.kind with
  | setupRx =>
    by_cases h : e.bcnt ≠ 8 ∨ e.data.length ≠ 8
    · exact ⟨_, setupArm_other _ _ _ h, hev, fun _ hb hd => absurd h (by simp [hb, hd]), fun _ _ => rfl, by simp,
        by simp⟩
    · obtain ⟨hb, hd⟩ : e.bcnt = 8 ∧ e.data.length = 8 := by omega
      obtain ⟨t, ht, hset, hfault, hev'⟩ := setupArm_runs e.data s.popped hd
      rw [hb]
      exact ⟨t, ht, hev'.trans hev, fun _ _ _ => ⟨setupArm_eight e.data _ hd, hset, hfault⟩,
        fun _ hn => absurd hn (by simp [hd]), by simp, by simp⟩
  | outDone => exact ⟨_, rfl, hev, by simp⟩
  | outRx | setupDone | other c => exact ⟨_, rfl, hev, by simp⟩

/-- Settles O40: in both states the pipeline's checks raise the fault before anything is written. -/
theorem pipelineFaultsOnImpossibleCounts : Obligations.PipelineFaultsOnImpossibleCounts := by
  intro s hu hf
  refine ⟨fun h => ?_, fun h h' => ?_⟩
  · exact exec_evOut_iso_fault s _ hu hf (if_pos h)
  · exact exec_evOut_iso_fault s _ hu hf ((if_neg (Nat.not_lt.mpr h)).trans (if_pos h'))

end Sys2Proof.Machine
end

section
/-! PROOFS. The statements about the environment: the step of a scheduled choice of the host, the timer, the audio
peripheral and the consumer (60_exceptions.md R363 to R368, R373, R374). -/

namespace Sys2Proof.Machine

/-- The step of a scheduled choice is that agent's step in the state without the choice. -/
theorem step_scheduled (s : State) (a : Action) (rest : List Action) (hf : s.fault = none) :
    step { s with schedule := a :: rest } = act exec a { s with schedule := rest } :=
  step_of_scheduled { s with schedule := a :: rest } a rest hf rfl

/-- A packet of the host takes its step exactly if it is of the length the contract allows (60_exceptions.md R379). -/
theorem act_hostSetup (p : List Byte) (s : State) :
    act exec (.hostSetup p) s = if p.length = 8 then .next (hostSetup p s) else .refused .setupNotEightBytes := rfl

theorem act_hostOut0 (d : List Byte) (s : State) :
    act exec (.hostOut0 d) s = if d.length ≤ 64 then .next (hostOut0 d s) else .refused .out0TooLong := rfl

theorem act_hostIso (d : List Byte) (s : State) :
    act exec (.hostIso d) s = if d.length ≤ 196 then .next (hostIso d s) else .refused .isoTooLong := rfl

/-! The host's steps, one equation per answer. -/

theorem hostOut0_stalled (d : List Byte) (s : State) (hs : s.ep0.outStall = true) :
    hostOut0 d s = { s with hostLog := s.hostLog ++ [.stallOut] } := if_pos hs

theorem hostOut0_naked (d : List Byte) (s : State) (hs : s.ep0.outStall = false) (ha : s.ep0.outArmed = false) :
    hostOut0 d s = s := by
  simp [hostOut0, hs, ha]

theorem hostOut0_accepted (d : List Byte) (s : State) (hs : s.ep0.outStall = false) (ha : s.ep0.outArmed = true) :
    hostOut0 d s = { s with
      ep0 := { s.ep0 with outArmed := false }
      ev := { s.ev with
        rxq := s.ev.rxq ++ [{ kind := .outRx, ep := 0, bcnt := d.length, data := d },
          { kind := .outDone, ep := 0, bcnt := 0, data := [] }]
        oepXfrc := s.ev.oepXfrc.set 0 true } } :=
  (if_neg (Bool.eq_false_iff.mp hs)).trans (if_pos ha)

theorem hostIn0_stalled (s : State) (hs : s.ep0.inStall = true) :
    hostIn0 s = { s with hostLog := s.hostLog ++ [.stallIn] } := if_pos hs

theorem hostIn0_naked (s : State) (hs : s.ep0.inStall = false) (ht : s.ep0.tx = none) : hostIn0 s = s := by
  simp [hostIn0, hs, ht]

theorem hostIn0_taken (s : State) (d : List Byte) (hs : s.ep0.inStall = false) (ht : s.ep0.tx = some d) :
    hostIn0 s = { s with
      hostLog := s.hostLog ++ [.pkt d]
      ep0 := { s.ep0 with tx := none }
      ev := { s.ev with iepXfrc := s.ev.iepXfrc.set 0 true } } := by
  refine (if_neg (Bool.eq_false_iff.mp hs)).trans ?_
  rw [ht]
  rfl

theorem hostIso_accepted (d : List Byte) (s : State) (hon : s.iso.active = true) (ha : s.iso.armed = true) :
    hostIso d s = { s with
      iso := { s.iso with rxpkt := d, rem := 196 - d.length, armed := false }
      ev := { s.ev with
        rxq := s.ev.rxq ++ [{ kind := .outRx, ep := 1, bcnt := d.length, data := d },
          { kind := .outDone, ep := 1, bcnt := 0, data := [] }]
        oepXfrc := s.ev.oepXfrc.set 1 true } } :=
  if_pos (by rw [hon, ha]; rfl)

theorem hostIso_dropped (d : List Byte) (s : State) (h : s.iso.active = false ∨ s.iso.armed = false) : hostIso d s = s :=
  if_neg (by rcases h with h | h <;> simp [h])

/-- What the step of an agent other than the block leaves: the host's three answers to each packet, the timer's two, and
the one outcome of every other step. -/
inductive AgentOutcome (s : State) : Action → State → Prop where
  | reset : AgentOutcome s .hostReset { s with ev := { s.ev with rstPending := true } }
  | setup (p : List Byte) (hp : p.length = 8) : AgentOutcome s (.hostSetup p) (hostSetup p s)
  | outStalled (d : List Byte) (hs : s.ep0.outStall = true) :
    AgentOutcome s (.hostOut0 d) { s with hostLog := s.hostLog ++ [.stallOut] }
  | outNaked (d : List Byte) : AgentOutcome s (.hostOut0 d) s
  | outAccepted (d : List Byte) :
    AgentOutcome s (.hostOut0 d) { s with
      ep0 := { s.ep0 with outArmed := false }
      ev := { s.ev with
        rxq := s.ev.rxq ++ [{ kind := .outRx, ep := 0, bcnt := d.length, data := d },
          { kind := .outDone, ep := 0, bcnt := 0, data := [] }]
        oepXfrc := s.ev.oepXfrc.set 0 true } }
  | inStalled (hs : s.ep0.inStall = true) : AgentOutcome s .hostIn0 { s with hostLog := s.hostLog ++ [.stallIn] }
  | inNaked : AgentOutcome s .hostIn0 s
  | inTaken (d : List Byte) (hs : s.ep0.inStall = false) (ht : s.ep0.tx = some d) :
    AgentOutcome s .hostIn0 { s with
      hostLog := s.hostLog ++ [.pkt d]
      ep0 := { s.ep0 with tx := none }
      ev := { s.ev with iepXfrc := s.ev.iepXfrc.set 0 true } }
  | isoAccepted (d : List Byte) (hd : d.length ≤ 196) :
    AgentOutcome s (.hostIso d) { s with
      iso := { s.iso with rxpkt := d, rem := 196 - d.length, armed := false }
      ev := { s.ev with
        rxq := s.ev.rxq ++ [{ kind := .outRx, ep := 1, bcnt := d.length, data := d },
          { kind := .outDone, ep := 1, bcnt := 0, data := [] }]
        oepXfrc := s.ev.oepXfrc.set 1 true } }
  | isoDropped (d : List Byte) : AgentOutcome s (.hostIso d) s
  | ticked (n : Nat) : AgentOutcome s (.tick n) { s with env := { s.env with clock := n } }
  | tickIgnored (n : Nat) : AgentOutcome s (.tick n) s
  | toggled (v : BitVec 1) : AgentOutcome s (.toggle v) { s with env := { s.env with toggle := v } }
  | consumed (c : ConsumerTarget) : AgentOutcome s (.consume c) s

theorem agent_hostOut0 (d : List Byte) (s : State) : AgentOutcome s (.hostOut0 d) (hostOut0 d s) := by
  cases hs : s.ep0.outStall
  · cases ha : s.ep0.outArmed
    · rw [hostOut0_naked d s hs ha]
      exact .outNaked d
    · rw [hostOut0_accepted d s hs ha]
      exact .outAccepted d
  · rw [hostOut0_stalled d s hs]
    exact .outStalled d hs

theorem agent_hostIn0 (s : State) : AgentOutcome s .hostIn0 (hostIn0 s) := by
  cases hs : s.ep0.inStall
  · cases ht : s.ep0.tx with
    | none =>
      rw [hostIn0_naked s hs ht]
      exact .inNaked
    | some d =>
      rw [hostIn0_taken s d hs ht]
      exact .inTaken d hs ht
  · rw [hostIn0_stalled s hs]
    exact .inStalled hs

theorem agent_hostIso (d : List Byte) (s : State) (hd : d.length ≤ 196) : AgentOutcome s (.hostIso d) (hostIso d s) := by
  by_cases h : s.iso.active = true ∧ s.iso.armed = true
  · rw [hostIso_accepted d s h.1 h.2]
    exact .isoAccepted d hd
  · rw [hostIso_dropped d s (by simpa only [not_and_or, Bool.not_eq_true] using h)]
    exact .isoDropped d

theorem agent_tick (n : Nat) (s : State) : AgentOutcome s (.tick n) (tick n s) := by
  unfold tick
  split
  · exact .ticked n
  · exact .tickIgnored n

/-- A step is that of the block's event or has one of the outcomes above. -/
theorem agent_cases (a : Action) (s t : State) (h : act exec a s = .next t) :
    (∃ e, a = .event e) ∨ AgentOutcome s a t := by
  cases a with
  | event e => exact .inl ⟨e, rfl⟩
  | hostReset => cases h; exact .inr .reset
  | hostSetup p =>
    rw [act_hostSetup] at h
    split at h <;> cases h
    exact .inr (.setup p ‹_›)
  | hostOut0 d =>
    rw [act_hostOut0] at h
    split at h <;> cases h
    exact .inr (agent_hostOut0 d s)
  | hostIso d =>
    rw [act_hostIso] at h
    split at h <;> cases h
    exact .inr (agent_hostIso d s ‹_›)
  | hostIn0 => cases h; exact .inr (agent_hostIn0 s)
  | tick n => cases h; exact .inr (agent_tick n s)
  | toggle v => cases h; exact .inr (.toggled v)
  | consume c => cases h; exact .inr (.consumed c)

/-! The statements. -/

/-- Settles O41: the flag is set, and set again it is the same. -/
theorem hostResetOnlyMarksPending : Obligations.HostResetOnlyMarksPending := by
  intro s rest hf
  rw [step_scheduled s _ rest hf]
  refine ⟨rfl, fun hp => ?_⟩
  have hev : { s.ev with rstPending := true } = s.ev := by rw [← hp]
  exact congrArg (fun ev => Host.Outcome.next { s with schedule := rest, ev := ev }) hev

/-- Settles O42, by the one test of the packet's length. -/
theorem hostSetupIsAlwaysAccepted : Obligations.HostSetupIsAlwaysAccepted := by
  intro s rest p hf
  rw [step_scheduled s _ rest hf, act_hostSetup]
  exact ⟨fun h => if_pos h, fun h => if_neg h⟩

/-- Settles O43: the length, then the stall bit, then the armed bit. -/
theorem hostOutIsStalledNakedOrAccepted : Obligations.HostOutIsStalledNakedOrAccepted := by
  intro s rest d hf
  rw [step_scheduled s _ rest hf, act_hostOut0]
  refine ⟨fun h => if_neg (Nat.not_le.mpr h), fun h hs => ?_, fun h hs ha => ?_, fun h hs ha => ?_⟩ <;> rw [if_pos h]
  · exact congrArg Host.Outcome.next (hostOut0_stalled d { s with schedule := rest } hs)
  · exact congrArg Host.Outcome.next (hostOut0_naked d { s with schedule := rest } hs ha)
  · exact congrArg Host.Outcome.next (hostOut0_accepted d { s with schedule := rest } hs ha)

/-- Settles O44: the stall bit, then the loaded packet. -/
theorem hostInTakesThePacketOnce : Obligations.HostInTakesThePacketOnce := by
  intro s rest hf
  have hact : ∀ t, act exec .hostIn0 t = .next (hostIn0 t) := fun _ => rfl
  rw [step_scheduled s _ rest hf, hact]
  refine ⟨fun hs => ?_, fun hs ht => ?_, fun d hs ht => ?_⟩
  · exact congrArg Host.Outcome.next (hostIn0_stalled { s with schedule := rest } hs)
  · exact congrArg Host.Outcome.next (hostIn0_naked { s with schedule := rest } hs ht)
  · exact congrArg Host.Outcome.next (hostIn0_taken { s with schedule := rest } d hs ht)

/-- Settles O45: the length, then whether the endpoint is enabled and armed. -/
theorem isoPacketIsAcceptedOrDropped : Obligations.IsoPacketIsAcceptedOrDropped := by
  intro s rest d hf
  rw [step_scheduled s _ rest hf, act_hostIso]
  refine ⟨fun h => if_neg (Nat.not_le.mpr h), fun h hon ha => ?_, fun h hoff => ?_⟩ <;> rw [if_pos h]
  · exact congrArg Host.Outcome.next (hostIso_accepted d { s with schedule := rest } hon ha)
  · exact congrArg Host.Outcome.next (hostIso_dropped d { s with schedule := rest } hoff)

/-- Settles O46, by the definitions of the three agents' steps. -/
theorem timerToggleAndConsumerSteps : Obligations.TimerToggleAndConsumerSteps := by
  intro s rest hf
  simp only [step_scheduled s _ rest hf]
  exact ⟨fun t h => congrArg Host.Outcome.next (if_pos h),
    fun t h => congrArg Host.Outcome.next (if_neg (Nat.not_le.mpr h)), fun _ => rfl, fun _ => rfl⟩

end Sys2Proof.Machine
end

section
/-! PROOFS. The isochronous receive pipeline (45_iso_receive.md R300 to R307): a packet's samples go to consecutive, wrapping
positions of one buffer, two a group. -/

namespace Sys2Proof.Machine

/-! Writing at consecutive positions that wrap. -/

/-- `new` is `old` with the samples `xs` written at the positions from `w` on, wrapping at `size`: the last `size` of them
stand, and every other position keeps its value. -/
structure StoredFrom (size w : Nat) (old new xs : List Sample) : Prop where
  length : new.length = size
  written : ∀ j, j < xs.length → xs.length ≤ j + size → new[(w + j) % size]? = xs[j]?
  kept : ∀ i, (∀ j, j < xs.length → (w + j) % size ≠ i) → new[i]? = old[i]?

/-- Two positions less than `size` apart are different. -/
theorem wrap_ne (size w j m : Nat) (hj : j < m) (hm : m < j + size) : (w + j) % size ≠ (w + m) % size := by
  intro h
  have hdvd : size ∣ (w + m) - (w + j) := (Nat.modEq_iff_dvd' (by omega)).mp h
  have := Nat.le_of_dvd (by omega) hdvd
  omega

theorem StoredFrom.nil (size w : Nat) (old : List Sample) (h : old.length = size) : StoredFrom size w old old [] :=
  ⟨h, fun _ hj => absurd hj (Nat.not_lt_zero _), fun _ _ => rfl⟩

/-- One more sample is written at the next position. -/
theorem StoredFrom.snoc {size w : Nat} {old new xs : List Sample} (h : StoredFrom size w old new xs) (hs : 0 < size)
    (v : Sample) : StoredFrom size w old (new.set ((w + xs.length) % size) v) (xs ++ [v]) := by
  have hpos : (w + xs.length) % size < new.length := by
    rw [h.length]
    exact Nat.mod_lt _ hs
  refine ⟨by rw [List.length_set, h.length], fun j hj hlast => ?_, fun i hi => ?_⟩
  · rw [List.length_append, List.length_singleton] at hj hlast
    by_cases hjx : j = xs.length
    · subst hjx
      rw [List.getElem?_set_self hpos, List.getElem?_concat_length]
    · have hlt : j < xs.length := by omega
      rw [List.getElem?_set_ne (wrap_ne size w j _ hlt (by omega)).symm, List.getElem?_append_left hlt]
      exact h.written j hlt (by omega)
  · rw [List.length_append, List.length_singleton] at hi
    rw [List.getElem?_set_ne (hi _ (by omega))]
    exact h.kept i fun j hj => hi j (by omega)

/-! The demultiplexer. -/

theorem samples_length (d : List Byte) (k : Nat) : (samples d k).length = 2 * k := by
  induction k with
  | zero => rfl
  | succ k ih =>
    rw [samples, List.length_append, ih]
    rfl

/-- The write index after `k` groups (45_iso_receive.md R304). -/
theorem demux_wrIdx (P : Params) (b : Buffer) (d : List Byte) (k : Nat) (a : Audio) (h : a.wrIdx < P.bufSamples) :
    (demux P b d k a).wrIdx = (a.wrIdx + 2 * k) % P.bufSamples := by
  induction k with
  | zero => exact (Nat.mod_eq_of_lt h).symm
  | succ k ih => rw [demux_succ, writeGroup_wrIdx, ih, Nat.mod_add_mod, Nat.mul_succ, Nat.add_assoc]

/-- The even position before the wrap is followed by the next one. -/
theorem wrap_succ_of_even (size x : Nat) (hs : size % 2 = 0) (hp : 0 < size) (hx : x % 2 = 0) :
    x % size + 1 = (x + 1) % size := by
  have hlt := Nat.mod_lt x hp
  have heven : x % size % 2 = 0 := by rw [Nat.mod_mod_of_dvd x (Nat.dvd_of_mod_eq_zero hs), hx]
  have hfit : x % size + 1 < size := by omega
  exact (Nat.mod_eq_of_lt hfit).symm.trans (Nat.mod_add_mod x size 1)

/-- `k` groups write their samples at consecutive wrapping positions of the target buffer (45_iso_receive.md R303, R304). -/
theorem demux_stored (P : Params) (b : Buffer) (d : List Byte) (k : Nat) (a : Audio) (hs : P.bufSamples % 2 = 0)
    (hw : a.wrIdx < P.bufSamples) (he : a.wrIdx % 2 = 0) (hl : (a.buffer b).length = P.bufSamples) :
    StoredFrom P.bufSamples a.wrIdx (a.buffer b) ((demux P b d k a).buffer b) (samples d k) := by
  have hp : 0 < P.bufSamples := by omega
  induction k with
  | zero => exact .nil _ _ _ hl
  | succ k ih =>
    have hnext := (ih.snoc hp (leftSample d k)).snoc hp (rightSample d k)
    rw [List.length_append, List.length_singleton, samples_length, ← Nat.add_assoc,
      ← wrap_succ_of_even _ _ hs hp (by omega), ← demux_wrIdx P b d k a hw] at hnext
    rw [demux_succ, (writeGroup_buffer P b d _ k).1, samples]
    simpa using hnext

/-! The pipeline. -/

/-- The pipeline raises no fault where the packet holds the bytes received (45_iso_receive.md R300, R301). -/
theorem isoFault_eq_none (s : State) (hr : s.iso.rem ≤ 196) (hl : 196 - s.iso.rem ≤ s.iso.rxpkt.length) :
    isoFault s = none :=
  (if_neg (Nat.not_lt.mpr hr)).trans (if_neg (Nat.not_lt.mpr hl))

/-- What the pipeline makes of the audio state (45_iso_receive.md R300 to R306). -/
def State.received (P : Params) (s : State) : Audio :=
  stamp P (now P s) (demux P (target P s) s.iso.rxpkt ((196 - s.iso.rem) / 4) s.aud)

/-- EV_OUT of the isochronous endpoint with a completion that the pipeline takes (46_event_dispatch.md R339). -/
theorem exec_evOut_iso (s : State) (hu : s.ep0.irqUnmasked = true) (hf : flagAt s.ev.oepXfrc 1 = true)
    (hn : isoFault s = none) :
    exec (.evOut 1) s = .next { s with
      ev := { s.ev with oepXfrc := s.ev.oepXfrc.set 1 false, oepStup := s.ev.oepStup.set 1 false }
      iso := { s.iso with rem := 196, armed := true }
      aud := s.received Config.params } := by
  have hen : outEnabled (1 : BitVec 4).toNat s = true := by simp [outEnabled, hu, hf]
  have hn' : isoFault (setOepXfrc 1 false s) = none := hn
  refine congrArg Host.Outcome.next ((if_pos hen).trans ?_)
  simp [onOutEp, hf, hn']
  rfl

theorem stamp_buffer (P : Params) (n : Nat) (a : Audio) (b : Buffer) : (stamp P n a).buffer b = a.buffer b := by
  cases b <;> rfl

theorem AudioOk.buffer {P : Params} {a : Audio} (h : AudioOk P a) (b : Buffer) : (a.buffer b).length = P.bufSamples := by
  cases b
  · exact h.bufA
  · exact h.bufB

/-- Settles O39: the samples are stored by the demultiplexer, the ring and its index by the timestamp's capture. -/
theorem pipelineStoresOnePacket : Obligations.PipelineStoresOnePacket := by
  intro s ha hu hf hr hl m size tgt
  have hn := isoFault_eq_none s hr hl
  have hrec : s.received Config.params =
      stamp Config.params (now Config.params s) (demux Config.params tgt s.iso.rxpkt (m / 2) s.aud) := by
    rw [show m / 2 = (196 - s.iso.rem) / 4 by omega]
    rfl
  have hst := demux_stored Config.params tgt s.iso.rxpkt (m / 2) s.aud Config.params_bufSamples_even ha.wrIdx ha.wrEven
    (ha.buffer tgt)
  have hlen : (samples s.iso.rxpkt (m / 2)).length = m := by rw [samples_length]; omega
  obtain ⟨hring, hidx, hother⟩ := demux_frame Config.params tgt s.iso.rxpkt (m / 2) s.aud
  refine ⟨_, exec_evOut_iso s hu hf hn, ?_⟩
  rw [hrec, stamp_buffer, stamp_buffer, hother]
  refine ⟨?_, ?_, ?_, rfl, ?_, ?_⟩
  · exact (demux_wrIdx _ _ _ _ _ ha.wrIdx).trans (by rw [show 2 * (m / 2) = m by omega])
  · simp only [stamp, hring, hidx, now]
  · simp only [stamp, hidx, and_ringCap_sub_one _ Config.params_ringCap]
  · simpa only [hlen] using hst.written
  · simpa only [hlen] using hst.kept

end Sys2Proof.Machine
end

section
/-! PROOFS. The invariant of the reachable states (10_state.md R69): it holds at power-on, and every operation keeps it. -/

namespace Sys2Proof.Machine

/-! Power-on (70_reset_and_hazards.md R400). -/

@[simp] theorem flagAt_replicate_false (n ep : Nat) : flagAt (List.replicate n false) ep = false := by
  simp [flagAt, List.getD_eq_getElem?_getD, List.getElem?_replicate]
  split <;> rfl

theorem AudioOk.powerOn (P : Params) (hb : 0 < P.bufSamples) (hr : 0 < P.ringCap) : AudioOk P (State.powerOn P).aud where
  bufA := List.length_replicate
  bufB := List.length_replicate
  wrIdx := hb
  wrEven := rfl
  ring := List.length_replicate
  ringIdx := hr
  stamps := fun t ht => by
    rw [List.eq_of_mem_replicate ht]
    exact Nat.two_pow_pos _

/-- Settles O47: every flag array is all false. -/
theorem resetIsThePowerOnState : Obligations.ResetIsThePowerOnState := by
  have hflag : ∀ ep, flagAt (List.replicate Config.params.numEp false) ep = false := flagAt_replicate_false _
  exact ⟨rfl, rfl, rfl, rfl, rfl, rfl, rfl, rfl, rfl, rfl, rfl, rfl, rfl, rfl, rfl,
    fun ep => ⟨hflag ep, hflag ep, hflag ep⟩, rfl, rfl, rfl, rfl, rfl, rfl, rfl, rfl, fun ep => ⟨rfl, rfl⟩⟩

/-- Settles O48, group by group. -/
theorem resetMeetsTheInvariants : Obligations.ResetMeetsTheInvariants where
  ctl := ⟨.inl rfl, by decide, by decide, nofun⟩
  dev := ⟨.inl rfl, .inl rfl⟩
  ep0 := ⟨nofun⟩
  iso := ⟨by decide, by decide⟩
  ev := ⟨nofun, List.length_replicate, List.length_replicate, List.length_replicate⟩
  aud := .powerOn _ (by have := Config.params_bufSamples_ge; omega) Config.params_ringCap_pos
  completion := fun h => by simp [State.reset, State.powerOn] at h
  fault := rfl
  hostLog := nofun

/-! The flags and the queue. -/

theorem flagAt_set_of_ne (fs : List Bool) (ep k : Nat) (v : Bool) (h : ep ≠ k) : flagAt (fs.set ep v) k = flagAt fs k := by
  simp [flagAt, List.getElem?_set_ne h]

/-- Clearing a flag raises none. -/
theorem flagAt_of_set_false (fs : List Bool) (ep k : Nat) (h : flagAt (fs.set ep false) k = true) : flagAt fs k = true := by
  by_cases hk : ep = k
  · subst hk
    simp only [flagAt, List.getD_eq_getElem?_getD, List.getElem?_set_self'] at h
    cases hv : fs[ep]? <;> simp [hv] at h
  · rwa [flagAt_set_of_ne fs ep k false hk] at h

/-- The entries of a received OUT packet of endpoint `ep` are well-formed (10_state.md R51). -/
theorem EntryOk.of_out (P : Params) (n : Nat) (d : List Byte) (h : n < P.numEp) :
    ∀ e ∈ [({ kind := .outRx, ep := n, bcnt := d.length, data := d } : RxEntry),
      { kind := .outDone, ep := n, bcnt := 0, data := [] }], EntryOk P e := by
  simp only [List.forall_mem_cons, List.not_mem_nil, false_implies, implies_true, and_true]
  exact ⟨⟨h, nofun, fun _ => rfl⟩, ⟨h, nofun, nofun⟩⟩

theorem EntryOk.of_setup (P : Params) (p : List Byte) (h : 0 < P.numEp) (hp : p.length = 8) :
    ∀ e ∈ [({ kind := .setupRx, ep := 0, bcnt := 8, data := p } : RxEntry),
      { kind := .setupDone, ep := 0, bcnt := 0, data := [] }], EntryOk P e := by
  simp only [List.forall_mem_cons, List.not_mem_nil, false_implies, implies_true, and_true]
  exact ⟨⟨h, fun _ => ⟨rfl, hp⟩, nofun⟩, ⟨h, nofun, nofun⟩⟩

/-- New entries at the end of the queue. -/
theorem EventsOk.push {P : Params} {v : Events} (h : EventsOk P v) (es : List RxEntry) (hes : ∀ e ∈ es, EntryOk P e) :
    EventsOk P { v with rxq := v.rxq ++ es } :=
  { h with rxq := fun e he => (List.mem_append.mp he).elim (h.rxq e) (hes e) }

theorem EventsOk.setOepXfrc {P : Params} {v : Events} (h : EventsOk P v) (ep : Nat) (b : Bool) :
    EventsOk P { v with oepXfrc := v.oepXfrc.set ep b } :=
  { h with oepXfrc := by rw [List.length_set, h.oepXfrc] }

theorem Invariant.setIepXfrc {s : State} (h : Invariant s) (ep : Nat) (b : Bool) : Invariant (setIepXfrc ep b s) :=
  { h with ev := { h.ev with iepXfrc := by simp [h.ev.iepXfrc] } }

theorem Invariant.setOepStup {s : State} (h : Invariant s) (ep : Nat) (b : Bool) : Invariant (setOepStup ep b s) :=
  { h with ev := { h.ev with oepStup := by simp [h.ev.oepStup] } }

theorem Invariant.clearOepXfrc {s : State} (h : Invariant s) (ep : Nat) : Invariant (Machine.setOepXfrc ep false s) :=
  { h with
    ev := h.ev.setOepXfrc ep false
    completion := fun hf => h.completion (flagAt_of_set_false _ _ _ hf) }

theorem Invariant.popped {s : State} (h : Invariant s) : Invariant s.popped :=
  { h with ev := { h.ev with rxq := fun e he => h.ev.rxq e (List.mem_of_mem_tail he) } }

/-- Neither the schedule nor the count of draws is in the invariant. -/
theorem Invariant.scheduled {s : State} (h : Invariant s) (c : List Action) (n : Nat) :
    Invariant { s with schedule := c, drawn := n } := { h with }

/-! Requests (41_control_sequencer.md R162). -/

theorem Invariant.afterAck {s : State} (h : Invariant s) (p : SetupPacket) : Invariant (s.afterAck p) :=
  { h with
    ctl := ⟨.inr (.inr rfl), Nat.le_of_lt_succ p.wLength.isLt, Nat.zero_le _, nofun⟩
    ep0 := ⟨fun d hd => by cases hd; exact Nat.zero_le _⟩ }

theorem Invariant.afterStall {s : State} (h : Invariant s) (p : SetupPacket) : Invariant (s.afterStall p) :=
  { h with
    ctl := ⟨.inl rfl, Nat.le_of_lt_succ p.wLength.isLt, Nat.zero_le _, nofun⟩
    ep0 := ⟨h.ep0.tx⟩ }

theorem Invariant.afterData {s : State} (h : Invariant s) (p : SetupPacket) (d : List Byte) (n : Nat) (hd : n ≤ d.length)
    (hn : n ≤ 65535) : Invariant (s.afterData p d n) :=
  { h with
    ctl := ⟨.inr (.inl rfl), hn, (Nat.min_le_left _ _).trans hn, fun _ => ⟨Nat.min_le_left _ _, d, rfl, hd⟩⟩
    ep0 := ⟨fun q hq => by cases hq; simp⟩ }

/-- A device with legal values, and an endpoint whose remaining size is the full one or kept with its packet. -/
theorem Invariant.withDevice {s : State} (h : Invariant s) (d : Device) (i : Iso) (hd : DeviceOk d)
    (hi : (i.rem = 196 ∨ i.rem = s.iso.rem) ∧ i.rxpkt = s.iso.rxpkt) : Invariant { s with dev := d, iso := i } :=
  { h with
    dev := hd
    iso := ⟨hi.1.elim (fun e => e.le) (fun e => e ▸ h.iso.rem), hi.2 ▸ h.iso.rxpkt⟩
    completion := fun hf => hi.1.elim .inl fun e => by rw [e, hi.2]; exact h.completion hf }

/-- Every request keeps the invariant. -/
theorem Invariant.request {s t : State} (h : Invariant s) {i : Instr} {p : SetupPacket} (ho : RequestOutcome i p s t) :
    Invariant t := by
  cases ho with
  | stall => exact h.afterStall p
  | data d n _ fits small => exact h.afterData p d n fits small
  | ack => exact h.afterAck p
  | address =>
    exact (h.withDevice { s.dev with devAddr := p.wValue.extractLsb' 0 7 } s.iso ⟨h.dev.config, h.dev.asAlt⟩
      ⟨.inr rfl, rfl⟩).afterAck p
  | unconfigure =>
    exact (h.withDevice { s.dev with config := 0 } s.iso ⟨.inl rfl, h.dev.asAlt⟩ ⟨.inr rfl, rfl⟩).afterAck p
  | configure =>
    exact (h.withDevice { s.dev with config := 1 } { s.iso with active := true } ⟨.inr rfl, h.dev.asAlt⟩
      ⟨.inr rfl, rfl⟩).afterAck p
  | disable =>
    exact (h.withDevice { s.dev with asAlt := 0 } { s.iso with active := false, armed := false } ⟨h.dev.config, .inl rfl⟩
      ⟨.inr rfl, rfl⟩).afterAck p
  | enable =>
    exact (h.withDevice { s.dev with asAlt := 1 } { s.iso with active := true, mps := 196, rem := 196, armed := true }
      ⟨h.dev.config, .inr rfl⟩ ⟨.inl rfl, rfl⟩).afterAck p

/-! The data phase and the pipeline. -/

/-- The packet step of the data phase (41_control_sequencer.md R155). -/
theorem Invariant.sendStep {s : State} (h : Invariant s) (hp : s.ctl.phase = .dataIn) : Invariant (sendStep s) := by
  obtain ⟨hle, b, hb, hlen⟩ := h.ctl.dataPhase hp
  have hmax := h.ctl.totalLen
  obtain ⟨hlt, e⟩ | ⟨_, _, e⟩ | ⟨_, _, e⟩ := sendStep_cases s <;> rw [e]
  · have hsent : s.ctl.sent + min (s.ctl.totalLen - s.ctl.sent) 64 ≤ s.ctl.totalLen := by omega
    exact { h with
      ctl := ⟨h.ctl.phase, hmax, hsent.trans hmax, fun _ => ⟨hsent, b, hb, hlen⟩⟩
      ep0 := ⟨fun q hq => by cases hq; simp [nextPacket, slice]⟩ }
  · exact { h with
      ctl := ⟨h.ctl.phase, hmax, h.ctl.sent, h.ctl.dataPhase⟩
      ep0 := ⟨fun q hq => by cases hq; exact Nat.zero_le _⟩ }
  · exact { h with
      ctl := ⟨.inr (.inr rfl), hmax, h.ctl.sent, nofun⟩
      ep0 := ⟨h.ep0.tx⟩ }

/-- The demultiplexer keeps the lengths and ranges of the audio state. -/
theorem AudioOk.demux {P : Params} {a : Audio} (h : AudioOk P a) (hs : P.bufSamples % 2 = 0) (b : Buffer) (d : List Byte)
    (k : Nat) : AudioOk P (demux P b d k a) := by
  obtain ⟨hring, hidx, hother⟩ := demux_frame P b d k a
  have hw := demux_wrIdx P b d k a h.wrIdx
  have hlen : ∀ c : Buffer, ((Machine.demux P b d k a).buffer c).length = P.bufSamples := by
    intro c
    have hc : c = b ∨ c = b.other := by cases b <;> cases c <;> decide
    rcases hc with rfl | rfl
    · exact (demux_stored P c d k a hs h.wrIdx h.wrEven (h.buffer c)).length
    · rw [hother, h.buffer]
  have heven := h.wrEven
  exact {
    bufA := hlen .A
    bufB := hlen .B
    wrIdx := hw ▸ Nat.mod_lt _ (Nat.zero_lt_of_lt h.wrIdx)
    wrEven := by rw [hw, Nat.mod_mod_of_dvd _ (Nat.dvd_of_mod_eq_zero hs)]; omega
    ring := hring ▸ h.ring
    ringIdx := hidx ▸ h.ringIdx
    stamps := hring ▸ h.stamps }

/-- The timestamp's capture keeps them, the timestamp being in range. -/
theorem AudioOk.stamp {P : Params} {a : Audio} (h : AudioOk P a) (hr : 2 ^ Nat.log2 P.ringCap = P.ringCap) (t : Nat)
    (ht : t < 2 ^ P.tsBits) : AudioOk P (stamp P t a) :=
  { h with
    ring := by rw [← h.ring]; exact List.length_set
    ringIdx := by
      show (a.ringIdx + 1) &&& (P.ringCap - 1) < P.ringCap
      rw [and_ringCap_sub_one P hr]
      exact Nat.mod_lt _ (Nat.zero_lt_of_lt h.ringIdx)
    stamps := fun x hx => (List.mem_or_eq_of_mem_set hx).elim (h.stamps x) fun e => e ▸ ht }

theorem Invariant.isoReceive {s : State} (h : Invariant s) : Invariant (isoReceive Config.params s) :=
  { h with
    iso := ⟨Nat.le_refl _, h.iso.rxpkt⟩
    aud := (h.aud.demux Config.params_bufSamples_even _ _ _).stamp Config.params_ringCap _ (Nat.mod_lt _ (Nat.two_pow_pos _))
    completion := fun _ => .inl rfl }

/-! The four events. -/

theorem Invariant.evReset {s t : State} (h : Invariant s) (hx : exec .evReset s = .next t) : Invariant t := by
  rw [← Host.Outcome.next.inj hx]
  split
  · exact { h with
      ctl := ⟨.inl rfl, h.ctl.totalLen, h.ctl.sent, nofun⟩
      dev := ⟨h.dev.config, h.dev.asAlt⟩
      ep0 := ⟨nofun⟩
      ev := { h.ev with } }
  · exact h

theorem Invariant.evRx {s t : State} (h : Invariant s) (hx : exec .evRx s = .next t) : Invariant t := by
  obtain ⟨_, rfl⟩ | ⟨e, q, hq, ⟨_, _, _, _, ho⟩ | ⟨hk, hbad, rfl⟩ | ⟨_, rfl⟩ | ⟨_, _, rfl⟩⟩ := evRx_cases s t hx
  · exact h
  · exact h.popped.request ho
  · obtain ⟨hb, hd⟩ := (h.ev.rxq e (by simp [hq])).setup hk
    exact absurd hbad (by simp [hb, hd])
  · exact { h.popped with ep0 := ⟨h.ep0.tx⟩ }
  · exact h.popped

theorem Invariant.evIn {s t : State} (h : Invariant s) (ep : BitVec 4) (hx : exec (.evIn ep) s = .next t) :
    Invariant t := by
  obtain ⟨_, rfl⟩ | ⟨_, ⟨_, hp, rfl⟩ | ⟨_, rfl⟩⟩ := evIn_cases ep s t hx
  · exact h
  · exact (h.setIepXfrc 0 false).sendStep hp
  · exact h.setIepXfrc _ _

theorem Invariant.evOut {s t : State} (h : Invariant s) (ep : BitVec 4) (hx : exec (.evOut ep) s = .next t) :
    Invariant t := by
  obtain ⟨_, rfl⟩ | ⟨_, ⟨hf, rfl, ⟨r, hr, _⟩ | ⟨_, rfl⟩⟩ | ⟨_, _, _, rfl⟩ | ⟨_, _, _, rfl⟩ | ⟨_, rfl⟩⟩ :=
    evOut_cases ep s t hx
  · exact h
  · rw [isoFault_none s (h.completion hf)] at hr
    cases hr
  · exact (h.clearOepXfrc 1).isoReceive.setOepStup 1 false
  · have hidle : Invariant (setPhase .idle (setOepXfrc 0 false s)) :=
      { h.clearOepXfrc 0 with ctl := ⟨.inl rfl, h.ctl.totalLen, h.ctl.sent, nofun⟩ }
    exact hidle.setOepStup 0 false
  · exact (h.clearOepXfrc _).setOepStup _ _
  · exact h.setOepStup _ _

theorem Invariant.event {s t : State} (h : Invariant s) (e : BitVec 8) (hx : act exec (.event e) s = .next t) :
    Invariant t := by
  obtain ⟨_, hx⟩ | ⟨_, hx⟩ | ⟨ep, _, _, hx⟩ | ⟨ep, _, _, hx⟩ := event_cases e s t hx
  · exact h.evReset hx
  · exact h.evRx hx
  · exact h.evIn ep hx
  · exact h.evOut ep hx

/-! The environment. -/

theorem Invariant.hostSetup {s : State} (h : Invariant s) (p : List Byte) (hp : p.length = 8) : Invariant (hostSetup p s) :=
  have hclear : Invariant (s.onEp0 fun e => { e with inStall := false, outStall := false }) :=
    { h with ep0 := ⟨h.ep0.tx⟩ }
  have hpush : Invariant (pushRx _ (s.onEp0 fun e => { e with inStall := false, outStall := false })) :=
    { hclear with ev := h.ev.push _ (EntryOk.of_setup _ p (by have := Config.params_numEp_ge; omega) hp) }
  hpush.setOepStup 0 true

theorem Invariant.logged {s : State} (h : Invariant s) (e : HostEvent) (he : ∀ d, e = .pkt d → d.length ≤ 64) :
    Invariant { s with hostLog := s.hostLog ++ [e] } :=
  { h with
    hostLog := fun d hd => (List.mem_append.mp hd).elim (h.hostLog d) fun hd => he d (List.mem_singleton.mp hd).symm }

/-- The step of every other agent keeps the invariant. -/
theorem Invariant.agent {s t : State} (h : Invariant s) {a : Action} (ho : AgentOutcome s a t) : Invariant t := by
  have hep : 2 ≤ Config.params.numEp := Config.params_numEp_ge
  cases ho with
  | reset => exact { h with ev := { h.ev with } }
  | setup p hp => exact h.hostSetup p hp
  | outStalled | inStalled => exact h.logged _ nofun
  | outNaked | inNaked | isoDropped | tickIgnored | consumed => exact h
  | outAccepted d =>
    exact { h with
      ep0 := ⟨h.ep0.tx⟩
      ev := (h.ev.push _ (EntryOk.of_out _ 0 d (by omega))).setOepXfrc 0 true
      completion := fun hf => h.completion (flagAt_set_of_ne _ 0 1 true (by decide) ▸ hf) }
  | inTaken d _ ht =>
    have hlog := h.logged (.pkt d) fun q hq => by cases hq; exact h.ep0.tx d ht
    exact { h.setIepXfrc 0 true with ep0 := ⟨nofun⟩, hostLog := hlog.hostLog }
  | isoAccepted d hd =>
    exact { h with
      iso := ⟨Nat.sub_le _ _, hd⟩
      ev := (h.ev.push _ (EntryOk.of_out _ 1 d hep)).setOepXfrc 1 true
      completion := fun _ => .inr (Nat.sub_add_cancel hd) }
  | ticked | toggled => exact { h with }

/-- Settles O49: a step is a draw that no agent can make, or one agent's step. -/
theorem everyStepKeepsTheInvariants : Obligations.EveryStepKeepsTheInvariants := by
  intro s t h hx
  obtain ⟨_, ⟨_, rfl⟩ | ⟨a, c, n, _, ha⟩⟩ := step_cases s t hx
  · exact h.scheduled s.schedule (s.drawn + 1)
  · obtain ⟨e, rfl⟩ | ho := agent_cases a _ t ha
    · exact (h.scheduled c n).event e ha
    · exact (h.scheduled c n).agent ho

end Sys2Proof.Machine
end

section
/-! PROOFS. What a step writes of the registers that the safety statements watch, said once: the device state, the endpoint's
enable bit and max packet size, the clock source, the audio state, the stall bits and the host's log (10_state.md R37 to R41,
R45, R46, R55 to R61, R63). -/

namespace Sys2Proof.Machine

/-- The watched registers of `t` are those of `s`. -/
structure SameWatched (s t : State) : Prop where
  dev : t.dev = s.dev
  active : t.iso.active = s.iso.active
  mps : t.iso.mps = s.iso.mps
  clk : t.clk = s.clk
  pendingAddress : t.ctl.pendingAddress = s.ctl.pendingAddress
  addressPending : t.ctl.addressPending = s.ctl.addressPending
  aud : t.aud = s.aud
  inStall : t.ep0.inStall = s.ep0.inStall
  outStall : t.ep0.outStall = s.ep0.outStall
  hostLog : t.hostLog = s.hostLog

theorem SameWatched.refl (s : State) : SameWatched s s := by constructor <;> rfl

/-- The steps by what they write of the watched registers: nothing, what the bus reset or a request writes, the audio state,
the stall bits, or one entry of the host's log. -/
inductive StepWrites (s t : State) : Prop where
  | nothing (h : SameWatched s t)
  | reset (hc : chosen s = some (.event 0x00)) (h : SameWatched (onBusReset s) t)
  | request (hc : chosen s = some (.event 0x10)) (p : SetupPacket) (hp : headSetup s = some p) (u : State)
    (hu : SameWatched s u) (ho : RequestOutcome (decodeSetup Config.params p) p u t)
  | pipeline (hc : chosen s = some (.event 0x31)) (hu : s.ep0.irqUnmasked = true) (hf : flagAt s.ev.oepXfrc 1 = true)
    (h : SameWatched { s with aud := t.aud } t)
  | unstall (p : List Byte) (hc : chosen s = some (.hostSetup p)) (h : SameWatched (hostSetup p s) t)
  | log (e : HostEvent) (h : SameWatched { s with hostLog := s.hostLog ++ [e] } t)
    (hc : (chosen s = some .hostIn0 ∧ s.ep0.inStall = true ∧ e = .stallIn) ∨
      (chosen s = some .hostIn0 ∧ s.ep0.inStall = false ∧ ∃ d, s.ep0.tx = some d ∧ e = .pkt d) ∨
      (∃ d, chosen s = some (.hostOut0 d) ∧ s.ep0.outStall = true ∧ e = .stallOut))

theorem sendStep_sameWatched (s : State) : SameWatched s (sendStep s) := by
  obtain ⟨_, e⟩ | ⟨_, _, e⟩ | ⟨_, _, e⟩ := sendStep_cases s <;> rw [e] <;> constructor <;> rfl

theorem evIn_sameWatched (ep : BitVec 4) (s t : State) (h : exec (.evIn ep) s = .next t) : SameWatched s t := by
  obtain ⟨_, rfl⟩ | ⟨_, ⟨_, _, rfl⟩ | ⟨_, rfl⟩⟩ := evIn_cases ep s t h
  · exact .refl _
  · exact { sendStep_sameWatched (setIepXfrc 0 false s) with }
  · constructor <;> rfl

theorem evOut_sameWatched (ep : BitVec 4) (s t : State) (h : exec (.evOut ep) s = .next t) :
    SameWatched s t ∨
      (ep = 1 ∧ s.ep0.irqUnmasked = true ∧ flagAt s.ev.oepXfrc 1 = true ∧ SameWatched { s with aud := t.aud } t) := by
  obtain ⟨_, rfl⟩ | ⟨hen, ⟨hf, rfl, ⟨r, _, rfl⟩ | ⟨_, rfl⟩⟩ | ⟨_, _, _, rfl⟩ | ⟨_, _, _, rfl⟩ | ⟨_, rfl⟩⟩ :=
    evOut_cases ep s t h
  · exact .inl (.refl _)
  · exact .inl (by constructor <;> rfl)
  · rw [outEnabled, Bool.and_eq_true] at hen
    exact .inr ⟨rfl, hen.1, hf, by constructor <;> rfl⟩
  all_goals exact .inl (by constructor <;> rfl)

theorem event_writes (s : State) (e : BitVec 8) (c : List Action) (n : Nat) (t : State) (hc : chosen s = some (.event e))
    (h : act exec (.event e) { s with schedule := c, drawn := n } = .next t) : StepWrites s t := by
  obtain ⟨rfl, hx⟩ | ⟨rfl, hx⟩ | ⟨ep, _, _, hx⟩ | ⟨ep, rfl, _, hx⟩ := event_cases e _ t h
  · rw [← Host.Outcome.next.inj hx]
    split
    · exact .reset hc (by constructor <;> rfl)
    · exact .nothing (by constructor <;> rfl)
  · obtain ⟨_, rfl⟩ | ⟨_, _, _, ⟨_, _, _, hp, ho⟩ | ⟨_, _, rfl⟩ | ⟨_, rfl⟩ | ⟨_, _, rfl⟩⟩ := evRx_cases _ t hx
    · exact .nothing (by constructor <;> rfl)
    · exact .request hc _ hp _ (by constructor <;> rfl) ho
    all_goals exact .nothing (by constructor <;> rfl)
  · exact .nothing { evIn_sameWatched ep _ t hx with }
  · obtain hs | ⟨rfl, hu, hf, hs⟩ := evOut_sameWatched ep _ t hx
    · exact .nothing { hs with }
    · exact .pipeline hc hu hf { hs with }

theorem agent_writes (s : State) (a : Action) (c : List Action) (n : Nat) (t : State) (hc : chosen s = some a)
    (h : AgentOutcome { s with schedule := c, drawn := n } a t) : StepWrites s t := by
  cases h with
  | setup p => exact .unstall p hc (by constructor <;> rfl)
  | outStalled d hs => exact .log .stallOut (by constructor <;> rfl) (.inr (.inr ⟨d, hc, hs, rfl⟩))
  | inStalled hs => exact .log .stallIn (by constructor <;> rfl) (.inl ⟨hc, hs, rfl⟩)
  | inTaken d hs ht => exact .log (.pkt d) (by constructor <;> rfl) (.inr (.inl ⟨hc, hs, d, ht, rfl⟩))
  | reset | outNaked | outAccepted | inNaked | isoAccepted | isoDropped | ticked | tickIgnored | toggled | consumed =>
    exact .nothing (by constructor <;> rfl)

/-- Every step writes of the watched registers what one of the cases says. -/
theorem step_writes (s t : State) (h : step s = .next t) : StepWrites s t := by
  obtain ⟨_, ⟨_, rfl⟩ | ⟨a, c, n, hc, ha⟩⟩ := step_cases s t h
  · exact .nothing (by constructor <;> rfl)
  · obtain ⟨e, rfl⟩ | ho := agent_cases a _ t ha
    · exact event_writes s e c n t hc ha
    · exact agent_writes s a c n t hc ho

/-- A step keeps the configuration registers, or handles a request that is one of those which write them. -/
theorem configuration_writers (s t : State) (h : step s = .next t) :
    (t.dev.config = s.dev.config ∧ t.dev.asAlt = s.dev.asAlt ∧ t.iso.mps = s.iso.mps ∧ t.iso.active = s.iso.active) ∨
      ∃ p, chosen s = some (.event 0x10) ∧ headSetup s = some p ∧
        (t.dev.config = s.dev.config ∨ decodeSetup Config.params p = .setConfiguration p) ∧
        (t.dev.asAlt = s.dev.asAlt ∨ decodeSetup Config.params p = .setInterface p) ∧
        (t.iso.mps = s.iso.mps ∨ decodeSetup Config.params p = .setInterface p) ∧
        (t.iso.active = s.iso.active ∨
          decodeSetup Config.params p = .setConfiguration p ∨ decodeSetup Config.params p = .setInterface p) := by
  cases step_writes s t h with
  | nothing hs | reset _ hs | pipeline _ _ _ hs | unstall _ _ hs | log _ hs =>
    exact .inl ⟨(congrArg Device.config hs.dev :), (congrArg Device.asAlt hs.dev :), hs.mps, hs.active⟩
  | request hc p hp u hu ho =>
    obtain ⟨_, hconf, halt, hiso⟩ := ho.writers
    rw [hu.dev] at hconf halt
    refine .inr ⟨p, hc, hp, hconf, halt, ?_⟩
    rw [← hu.mps, ← hu.active]
    obtain hiso | hi | ⟨hi, hiso⟩ := hiso
    · exact ⟨.inl (congrArg Iso.mps hiso), .inl (congrArg Iso.active hiso)⟩
    · exact ⟨.inr hi, .inr (.inr hi)⟩
    · exact ⟨.inl (congrArg Iso.mps hiso :), .inr (.inl hi)⟩

/-! The statements. -/

/-- Settles O51: of the steps that write the address the bus reset clears it and SET_ADDRESS checks its value. -/
theorem addressChangesOnlyBySetAddressOrReset : Obligations.AddressChangesOnlyBySetAddressOrReset := by
  intro s t h hne
  cases step_writes s t h with
  | nothing hs | pipeline _ _ _ hs | unstall _ _ hs | log _ hs => exact absurd (congrArg Device.devAddr hs.dev) hne
  | reset hc hs => exact .inl ⟨hc, congrArg Device.devAddr hs.dev⟩
  | request hc p hp u hu ho =>
    rw [← hu.dev] at hne
    cases ho with
    | address hi hv hx hl =>
      refine .inr ⟨hc, p, hp, hi, ?_, hx, hl⟩
      have hlow : (p.wValue.extractLsb' 0 7).toNat = p.wValue.toNat % 128 := by simp
      exact hlow.trans (Nat.mod_eq_of_lt (by omega))
    | stall | data | ack | unconfigure | configure | disable | enable => exact absurd rfl hne

/-- Settles O52: each register that changed has its writers. -/
theorem configurationChangesOnlyByItsRequests : Obligations.ConfigurationChangesOnlyByItsRequests := by
  intro s t h
  obtain ⟨hconf, halt, hmps, hact⟩ | ⟨p, hc, hp, hconf, halt, hmps, hact⟩ := configuration_writers s t h
  · exact ⟨(absurd hconf ·), fun hn => (hn.elim (· halt) (· hmps)).elim, (absurd hact ·)⟩
  · exact ⟨fun hn => ⟨p, hc, hp, hconf.resolve_left hn⟩,
      fun hn => ⟨p, hc, hp, hn.elim halt.resolve_left hmps.resolve_left⟩,
      fun hn => ⟨p, hc, hp, hact.resolve_left hn⟩⟩

/-- Settles O53: no case writes them. -/
theorem clockSourceNeverChanges : Obligations.ClockSourceNeverChanges := by
  intro s t h
  cases step_writes s t h with
  | nothing hs | reset _ hs | pipeline _ _ _ hs | unstall _ _ hs | log _ hs =>
    exact ⟨hs.clk, hs.pendingAddress, hs.addressPending⟩
  | request _ p _ u hu ho =>
    obtain ⟨_, _, hpa, hap, _, _, hclk, _⟩ := ho.frame
    exact ⟨hclk.trans hu.clk, hpa.trans hu.pendingAddress, hap.trans hu.addressPending⟩

/-- Settles O54: one case writes the audio state. -/
theorem audioIsWrittenOnlyByThePipeline : Obligations.AudioIsWrittenOnlyByThePipeline := by
  intro s t h hne
  cases step_writes s t h with
  | nothing hs | reset _ hs | unstall _ _ hs | log _ hs => exact absurd hs.aud hne
  | request _ p _ u hu ho =>
    obtain ⟨_, _, _, _, _, _, _, haud, _⟩ := ho.frame
    exact absurd (haud.trans hu.aud) hne
  | pipeline hc hu hf => exact ⟨hc, hu, hf⟩

/-- A request sets both stall bits or keeps them. -/
theorem RequestOutcome.stallBits {i : Instr} {p : SetupPacket} {s t : State} (h : RequestOutcome i p s t) :
    (t.ep0.inStall = true ∧ t.ep0.outStall = true) ∨
      (t.ep0.inStall = s.ep0.inStall ∧ t.ep0.outStall = s.ep0.outStall) := by
  cases h with
  | stall => exact .inl ⟨rfl, rfl⟩
  | data | ack | address | unconfigure | configure | disable | enable => exact .inr ⟨rfl, rfl⟩

/-- Settles O55: two cases clear the stall bits, and both clear both. -/
theorem stallLastsUntilSetupOrReset : Obligations.StallLastsUntilSetupOrReset := by
  intro s t h hclear
  cases step_writes s t h with
  | nothing hs | pipeline _ _ _ hs | log _ hs =>
    rw [hs.inStall, hs.outStall] at hclear
    simp at hclear
  | reset hc hs => exact ⟨.inl hc, hs.inStall, hs.outStall⟩
  | unstall p hc hs => exact ⟨.inr ⟨p, hc⟩, hs.inStall, hs.outStall⟩
  | request _ p _ u hu ho =>
    rw [← hu.inStall, ← hu.outStall] at hclear
    obtain ⟨hin, hout⟩ | ⟨hin, hout⟩ := ho.stallBits
    · simp [hin, hout] at hclear
    · simp [hin, hout] at hclear

/-- Settles O56: one case appends to the log. -/
theorem hostLogIsAppendedOnlyByTheHost : Obligations.HostLogIsAppendedOnlyByTheHost := by
  intro s t h
  cases step_writes s t h with
  | nothing hs | reset _ hs | pipeline _ _ _ hs | unstall _ _ hs => exact .inl hs.hostLog
  | request _ p _ u hu ho =>
    obtain ⟨_, _, _, _, _, _, _, _, _, hlog, _⟩ := ho.frame
    exact .inl (hlog.trans hu.hostLog)
  | log e hs hc =>
    right
    obtain ⟨hc, hst, rfl⟩ | ⟨hc, hst, d, ht, rfl⟩ | ⟨d, hc, hst, rfl⟩ := hc
    · exact .inl ⟨hc, hst, hs.hostLog⟩
    · exact .inr (.inl ⟨hc, hst, d, ht, hs.hostLog⟩)
    · exact .inr (.inr ⟨d, hc, hst, hs.hostLog⟩)

end Sys2Proof.Machine
end

section
/-! PROOFS. No instruction reads the address register, the alternate setting, the max-packet-size field or the clock-locked
flag (10_state.md R38, R40, R46, R57): every operation takes a state with other values there to one with other values
there. -/

namespace Sys2Proof.Machine

/-- Values of the four registers that no instruction reads. -/
structure Unread where
  addr : BitVec 7
  alt : BitVec 8
  mps : Nat
  locked : Bool

/-- The state with these values in the four registers. -/
def Unread.on (r : Unread) (s : State) : State :=
  { s with
    dev := { s.dev with devAddr := r.addr, asAlt := r.alt }
    iso := { s.iso with mps := r.mps }
    clk := { s.clk with locked := r.locked } }

/-! The operations of the sequencer keep the four registers. -/

theorem sendStep_on (r : Unread) (s : State) : sendStep (r.on s) = r.on (sendStep s) := by
  rw [sendStep, sendStep, apply_ite r.on, apply_ite r.on]
  rfl

theorem send_on (r : Unread) (d : Option (List Byte)) (n : Nat) (s : State) : send d n (r.on s) = r.on (send d n s) := by
  unfold send
  split
  · rfl
  · cases d with
    | none => rfl
    | some b => exact sendStep_on r (s.onCtl (startData b n))

theorem onInDone0_on (r : Unread) (s : State) : onInDone0 (r.on s) = r.on (onInDone0 s) := by
  rw [onInDone0, onInDone0, apply_ite r.on, ← sendStep_on]
  rfl

theorem onOutDone0_on (r : Unread) (s : State) : onOutDone0 (r.on s) = r.on (onOutDone0 s) := by
  rw [onOutDone0, onOutDone0, apply_ite r.on]
  rfl

/-! The handlers of the requests. -/

/-- The handler, or an event's handler, does not read the four registers. -/
def Blind (handler : State → State) : Prop :=
  ∀ (r : Unread) (s : State), ∃ r' : Unread, handler (r.on s) = r'.on (handler s)

theorem blind_stall0 : Blind stall0 := fun r _ => ⟨r, rfl⟩

theorem blind_ack : Blind ack := fun r _ => ⟨r, rfl⟩

theorem blind_reply (f : State → List Byte) (hf : ∀ (r : Unread) (s : State), f (r.on s) = f s) :
    Blind fun s => reply Config.params (f s) s := fun r s => ⟨r, by
  show reply Config.params (f (r.on s)) (r.on s) = _
  rw [hf]
  exact send_on r _ _ s⟩

theorem blind_serve (d : List Byte) (L : Nat) : Blind (serve d L) := fun r s => ⟨r, send_on r _ _ s⟩

theorem Blind.ite {c : State → Prop} [DecidablePred c] {f g : State → State}
    (hc : ∀ (r : Unread) (s : State), c (r.on s) ↔ c s) (hf : Blind f) (hg : Blind g) : Blind fun s => if c s then f s else g s := by
  intro r s
  by_cases h : c s
  · obtain ⟨r', e⟩ := hf r s
    exact ⟨r', (if_pos ((hc r s).mpr h)).trans (e.trans (congrArg r'.on (if_pos h).symm))⟩
  · obtain ⟨r', e⟩ := hg r s
    exact ⟨r', (if_neg (mt (hc r s).mp h)).trans (e.trans (congrArg r'.on (if_neg h).symm))⟩

theorem blind_getDescriptorString : Blind getDescriptorString := by
  intro r s
  cases h : stringTable Config.params s.ctl.setup.dindex with
  | none =>
    have hstall : ∀ q : State, q.ctl = s.ctl → getDescriptorString q = stall0 q := fun q hq => by
      simp [getDescriptorString, hq, h]
    rw [hstall (r.on s) rfl, hstall s rfl]
    exact blind_stall0 r s
  | some d =>
    have hserve : ∀ q : State, q.ctl = s.ctl → getDescriptorString q = serve d (byteAt d 0).toNat q := fun q hq => by
      simp [getDescriptorString, hq, h]
    rw [hserve (r.on s) rfl, hserve s rfl]
    exact blind_serve d _ r s

theorem blind_setAddress : Blind setAddress := by
  unfold setAddress
  exact .ite (fun _ _ => Iff.rfl) blind_stall0 fun r s => ⟨{ r with addr := s.ctl.setup.wValue.extractLsb' 0 7 }, rfl⟩

theorem blind_setConfiguration : Blind setConfiguration := by
  unfold setConfiguration
  refine .ite (fun _ _ => Iff.rfl) blind_stall0 fun r s => ⟨r, ?_⟩
  show ack (if s.ctl.setup.wValue = 1 then _ else _) = r.on (ack (if s.ctl.setup.wValue = 1 then _ else _))
  split <;> rfl

theorem blind_setInterface : Blind setInterface := by
  unfold setInterface
  exact .ite (fun _ _ => Iff.rfl) blind_ack (.ite (fun _ _ => Iff.rfl) (fun r _ => ⟨{ r with alt := 0 }, rfl⟩)
    (.ite (fun _ _ => Iff.rfl) (fun r _ => ⟨{ r with alt := 1, mps := 196 }, rfl⟩) blind_stall0))

/-! The handlers of the events. -/

theorem blind_busReset : Blind fun s => if resetEnabled s then onBusReset s else s :=
  .ite (fun _ _ => Iff.rfl) (fun r _ => ⟨{ r with addr := 0 }, rfl⟩) fun r _ => ⟨r, rfl⟩

theorem blind_onInEp (ep : Nat) : Blind (onInEp ep) := by
  unfold onInEp
  exact .ite (fun _ _ => Iff.rfl) (fun r s => ⟨r, onInDone0_on r (setIepXfrc ep false s)⟩) fun r _ => ⟨r, rfl⟩

theorem blind_isoReceive (ep : Nat) : Blind fun s =>
    match isoFault (setOepXfrc ep false s) with
    | some f => raiseFault f (setOepXfrc ep false s)
    | none => setOepStup ep false (isoReceive Config.params (setOepXfrc ep false s)) := by
  intro r s
  have hf : isoFault (setOepXfrc ep false (r.on s)) = isoFault (setOepXfrc ep false s) := rfl
  cases h : isoFault (setOepXfrc ep false s) <;> simp only [hf, h] <;> exact ⟨r, rfl⟩

theorem blind_onOutEp (ep : Nat) : Blind (onOutEp Config.params ep) := by
  unfold onOutEp
  refine .ite (fun _ _ => Iff.rfl) (.ite (fun _ _ => Iff.rfl) (fun r s => ⟨r, ?_⟩)
    (.ite (fun _ _ => Iff.rfl) (blind_isoReceive ep) fun r _ => ⟨r, rfl⟩)) fun r _ => ⟨r, rfl⟩
  exact congrArg (setOepStup ep false) (onOutDone0_on r (setOepXfrc ep false s))

/-! Instructions. -/

/-- A meaning that answers a next state answers one that differs only in the four registers when only they differed. -/
def BlindMeaning (run : State → Result) : Prop :=
  ∀ (r : Unread) (s t : State), run s = .next t → ∃ r' : Unread, run (r.on s) = .next (r'.on t)

theorem Blind.meaning {handler : State → State} (h : Blind handler) : BlindMeaning fun s => .next (handler s) := by
  intro r s t hx
  obtain ⟨r', e⟩ := h r s
  exact ⟨r', congrArg Host.Outcome.next (e.trans (congrArg r'.on (Host.Outcome.next.inj hx)))⟩

theorem Blind.request {handler : State → State} (h : Blind handler) (p : SetupPacket) :
    BlindMeaning fun s => .next (onSetup p handler s) :=
  Blind.meaning fun r s => h r (s.onCtl (recordSetup p))

theorem blind_exec_request (i : Instr) (p : SetupPacket) (h : i.packet? = some p) : BlindMeaning (exec i) := by
  cases i <;> simp only [Instr.packet?, Option.some.injEq, reduceCtorEq] at h <;> subst h
  case getStatus | getConfiguration | uac2FreqGetCur | uac2FreqGetRange | uac2ValidGetCur | uac2CxGetCur |
      vendorKeepalive =>
    exact (blind_reply _ fun _ _ => rfl).request _
  case getDescriptorDevice | getDescriptorConfiguration | getDescriptorQualifier => exact (blind_serve _ _).request _
  case getDescriptorString => exact blind_getDescriptorString.request _
  case setAddress => exact blind_setAddress.request _
  case setConfiguration => exact blind_setConfiguration.request _
  case setInterface => exact blind_setInterface.request _
  case uac2EpAny | uac2AsAny | uac2FreqSetCur | uac2CxSetCur => exact blind_ack.request _
  all_goals exact blind_stall0.request _

theorem blind_setupArm (bcnt : Nat) (data : List Byte) : BlindMeaning (setupArm bcnt data) := by
  by_cases h : bcnt ≠ 8 ∨ data.length ≠ 8
  · rw [show setupArm bcnt data = _ from funext fun s => setupArm_other bcnt data s h]
    exact Blind.meaning fun r _ => ⟨r, rfl⟩
  · obtain ⟨rfl, hd⟩ : bcnt = 8 ∧ data.length = 8 := by omega
    rw [show setupArm 8 data = _ from funext fun s => setupArm_eight data s hd]
    exact blind_exec_request _ _ (decodeSetup_isRequest Config.params (parsePacket data))

theorem blind_evRx : BlindMeaning (exec .evRx) := by
  intro r s t hx
  cases hq : s.ev.rxq with
  | nil =>
    rw [exec_evRx_nil s hq] at hx
    cases hx
    exact ⟨r, exec_evRx_nil (r.on s) hq⟩
  | cons e q =>
    rw [exec_evRx_cons s e q hq] at hx
    rw [exec_evRx_cons (r.on s) e q hq]
    cases hk : e.kind <;> simp only [hk] at hx ⊢
    case setupRx => exact blind_setupArm _ _ r s.popped t hx
    all_goals cases hx; exact ⟨r, rfl⟩

theorem blind_exec (i : Instr) : BlindMeaning (exec i) := by
  cases hp : i.packet? with
  | some p => exact blind_exec_request i p hp
  | none =>
    cases i with
    | evReset => exact blind_busReset.meaning
    | evRx => exact blind_evRx
    | evIn ep =>
      exact Blind.meaning (.ite (c := fun s => inEnabled ep.toNat s = true) (fun _ _ => Iff.rfl) (blind_onInEp _)
        fun r _ => ⟨r, rfl⟩)
    | evOut ep =>
      exact Blind.meaning (.ite (c := fun s => outEnabled ep.toNat s = true) (fun _ _ => Iff.rfl) (blind_onOutEp _)
        fun r _ => ⟨r, rfl⟩)
    | rxSetupRx st => exact fun r s => blind_setupArm st.bcnt.toNat (headData s) r s.popped
    | rxOutRx | rxOutDone | rxSetupDone | rxOther => exact Blind.meaning fun r _ => ⟨r, rfl⟩
    | _ => cases hp

/-- Settles O57: the two next states differ at most in the four registers. -/
theorem unreadRegistersChangeNothingElse : Obligations.UnreadRegistersChangeNothingElse := by
  intro i s t addr alt mps locked hx
  obtain ⟨r', hu⟩ := blind_exec i ⟨addr, alt, mps, locked⟩ s t hx
  exact ⟨r'.on t, hu, rfl⟩

end Sys2Proof.Machine
end

section
/-! PROOFS. The descriptor's data phase (43_descriptor_server.md R241): the packets join to the first `min(wLength, L)` bytes
of the table. -/

namespace Sys2Proof.Machine

/-! The packets of a data phase (41_control_sequencer.md R159). -/

theorem packetAt_length (d : List Byte) (n k : Nat) (h : n ≤ d.length) :
    (packetAt d n k).length = min 64 (n - 64 * k) := by
  rw [packetAt, slice, List.length_take, List.length_drop]
  omega

/-- The first `k` packets join to the first `64 k` of the bytes sent. -/
theorem flatten_packetAt (d : List Byte) (n k : Nat) :
    ((List.range k).map (packetAt d n)).flatten = d.take (min n (64 * k)) := by
  induction k with
  | zero => simp
  | succ k ih =>
    rw [List.range_succ, List.map_append, List.flatten_append, ih, List.map_singleton, List.flatten_singleton]
    by_cases h : n ≤ 64 * k
    · simp [packetAt, slice, show n - 64 * k = 0 by omega, show min n (64 * k) = min n (64 * (k + 1)) by omega]
    · rw [show min n (64 * k) = 64 * k by omega, show min n (64 * (k + 1)) = 64 * k + min 64 (n - 64 * k) by omega,
        List.take_add]
      rfl

theorem flatten_dataPackets (d : List Byte) (n : Nat) : (dataPackets d n).flatten = d.take n := by
  rw [dataPackets_eq_map_packetAt, flatten_packetAt, show min n (64 * (n / 64 + 1)) = n by omega]

theorem length_le_of_mem_dataPackets (d : List Byte) (n : Nat) (q : List Byte) (hq : q ∈ dataPackets d n) :
    q.length ≤ 64 := by
  rw [dataPackets_eq_map_packetAt] at hq
  obtain ⟨k, _, rfl⟩ := List.mem_map.mp hq
  rw [packetAt, slice, List.length_take]
  omega

/-- An empty packet is among them exactly if 64 divides the length. -/
theorem nil_mem_dataPackets_iff (d : List Byte) (n : Nat) (h : n ≤ d.length) : [] ∈ dataPackets d n ↔ n % 64 = 0 := by
  rw [dataPackets_eq_map_packetAt, List.mem_map]
  constructor
  · rintro ⟨k, hk, he⟩
    have hlen := packetAt_length d n k h
    rw [he, List.length_nil] at hlen
    rw [List.mem_range] at hk
    omega
  · intro hz
    refine ⟨n / 64, List.mem_range.mpr (Nat.lt_succ_self _), List.eq_nil_of_length_eq_zero ?_⟩
    rw [packetAt_length d n _ h]
    omega

/-! The requests that serve a table. -/

/-- A request that serves a table leaves what the descriptor server leaves, and the table holds its true length. -/
theorem Serves.exec_eq {p : SetupPacket} {i : Instr} {d : List Byte} {L : Nat} (h : Serves Config.params p i d L)
    (s : State) : exec i s = .next (s.afterServe p d L) ∧ L ≤ d.length := by
  obtain ⟨hl, hm, hp⟩ := Config.params_strings
  cases h with
  | device => exact ⟨congrArg Host.Outcome.next (onSetup_serve p _ _ s), Config.params_devDesc_length.ge⟩
  | configuration | qualifier => exact ⟨congrArg Host.Outcome.next (onSetup_serve p _ _ s), Nat.le_refl _⟩
  | language h => exact ⟨exec_getDescriptorString_of_table p _ s (by rw [h, stringTable_zero]), hl.2⟩
  | manufacturer h => exact ⟨exec_getDescriptorString_of_table p _ s (by rw [h, stringTable_one]), hm.2⟩
  | product h => exact ⟨exec_getDescriptorString_of_table p _ s (by rw [h, stringTable_two]), hp.2⟩

/-- The host takes every packet of what the descriptor server left: the one ZLP, or the data phase. -/
theorem run_afterServe (p : SetupPacket) (d : List Byte) (L : Nat) (s : State) (rest : List Action) (hL : L ≤ d.length)
    (h : InServed s) (hc : s.schedule = takePackets (min p.wLength.toNat L / 64 + 1) ++ rest) :
    ∃ u, Host.Core.run Sys2Proof.core (2 * (min p.wLength.toNat L / 64 + 1)) (s.afterServe p d L) = .next u ∧
      u.hostLog = s.hostLog ++ (dataPackets d (min p.wLength.toNat L)).map .pkt ∧ u.schedule = rest := by
  rw [State.afterServe]
  generalize hn : min p.wLength.toNat L = n at hc ⊢
  by_cases h0 : n = 0
  · subst h0
    rw [if_pos rfl]
    exact ⟨_, run_taken (s.afterAck p) [] rest h.fault h.inStall h.unmasked h.flags rfl hc, rfl, rfl⟩
  · have hpos : 0 < n := by omega
    have hsend : s.afterData p d n = send (some d) n (s.onCtl (recordSetup p)) := (onSetup_send p d n s hpos).symm
    rw [if_neg h0, hsend, ← dataPackets_length d n]
    rw [← dataPackets_length d n] at hc
    obtain ⟨u, hu, hlog, _, _, _, _, _, hrest, _⟩ := trailingZlpLaw (s.onCtl (recordSetup p)) d n rest hpos (by omega)
      h.fault h.inStall h.unmasked h.flags hc
    exact ⟨u, hu, hlog, hrest⟩

/-- Settles O59: the packets of the data phase, the ZLP alone where no byte is asked for. -/
theorem dataPacketsCarryExactlyTheBytes : Obligations.DataPacketsCarryExactlyTheBytes := by
  intro i p d L s rest hserves hf hs hu hl n hc
  obtain ⟨hx, hL⟩ := hserves.exec_eq s
  have hn : n ≤ d.length := (Nat.min_le_right _ _).trans hL
  obtain ⟨u, hrun, hlog, hrest⟩ := run_afterServe p d L s rest hL ⟨hf, hs, hu, hl⟩ hc
  have hflat := flatten_dataPackets d n
  exact ⟨_, u, dataPackets d n, hx, hrun, hlog, hflat, by rw [hflat, List.length_take_of_le hn], dataPackets_length d n,
    length_le_of_mem_dataPackets d n, nil_mem_dataPackets_iff d n hn, hrest⟩

end Sys2Proof.Machine
end
